-- ==== Sys2Proof/Word.lean ====
section
/-! DEFINITION. The widths of the spec (`00_scope.md` R9, R12): patterns, command bytes, the 4-bit
control fields, the 6-bit charset index and the cell index. -/

namespace Sys2Proof

/-- A segment pattern, the glyph accumulator, a sink value: 16 bits (`PATW`, R9). -/
abbrev Word := BitVec 16

/-- A command byte and the serial accumulator: 8 bits (`BYTEW`, R9). -/
abbrev Byte := BitVec 8

/-- A 4-bit control field: `cursor_pos`, `pcursor_pos`, `win_start`, `win_end`, `flash_rate` (R30). -/
abbrev Nibble := BitVec 4

/-- A charset index and an in-band code: 6 bits (`NCHARS`, R9; R10). -/
abbrev CharIx := BitVec 6

/-- The two bits `b[3:2]` of an F_CTRL2 byte, which do not change the operation (R105, R171). -/
abbrev Unused := BitVec 2

/-- A cell number, a sink number and a bit position of a pattern: 0..15 (`NCELLS`, R9). -/
abbrev CellIx := Fin 16

end Sys2Proof
end

