-- ==== Sys2Proof/Config.lean ====
section
/-! DEFINITION. The implementation parameters (`00_scope.md` R9, R10, R11). The open ones (R10, D23) are
opaque constants: nothing can evaluate them, so a claim that holds of them holds for every value the
spec allows. `Chip` gathers one value of every parameter as plain data. -/

namespace Sys2Proof

namespace Config

/-- `FLASH_RELOAD`, the value FRATE and the first flash phase load into `flash_timer` (R9). -/
def flashReload : Nat := 20

/-- `UG_BYTES`, glyph data bytes per load (R9). -/
def ugBytes : Nat := 2

/-- `CHARSET` (R10, R300): open. -/
opaque charset : Fin 64 → Word

/-- `PLACEHOLDER`, as its membership test (R10, R302): open. -/
opaque placeholder : Fin 64 → Bool

/-- `PERM`, a bijection on the bit positions 0..15 (R10, R303): open. -/
opaque perm : Equiv.Perm CellIx

/-- `FLASH_MARK_CODE`, a byte 0x00..0x3F, held as its low six bits (R10): open. -/
opaque flashMarkCode : CharIx

/-- `UNDEFINED_CODE` (R10): open. -/
opaque undefinedCode : CharIx

/-- `DP_CODE` (R10): open. -/
opaque dpCode : CharIx

/-- `SEMI_CODE` (R10): open. -/
opaque semiCode : CharIx

/-- `GLYPH_TRIGGER_CODE` (R10): open. -/
opaque glyphTriggerCode : CharIx

/-- `DUMMY_CODE` (R10): open. -/
opaque dummyCode : CharIx

/-- `FLASH_MARK_BIT` (R10, R301): open. -/
opaque flashMarkBit : CellIx

/-- `DP_BIT` (R10, R301): open. -/
opaque dpBit : CellIx

end Config

/-- One value of every parameter of R10 and R11, as plain data. DESIGN CHOICE (log 3): the machine's
state carries one, which no event writes, so that a claim about every state is a claim about every
value of the parameters. -/
structure Chip where
  charset          : Vector Word 64
  placeholder      : Vector Bool 64
  perm             : Vector CellIx 16
  flashMarkCode    : CharIx
  undefinedCode    : CharIx
  dpCode           : CharIx
  semiCode         : CharIx
  glyphTriggerCode : CharIx
  dummyCode        : CharIx
  flashMarkBit     : CellIx
  dpBit            : CellIx
  /-- `FLASH_B_RELOAD` (R11): the spec decides 20 (D14); 0 is the literal reading of its source. -/
  flashBReload     : Nat
  /-- `LOW` (R11): the spec decides `false` (D1). -/
  low              : Bool
deriving DecidableEq, Repr

/-- The parameters of the machine after reset: the open ones are Config's opaque constants (log 3), the
two decided ones have the values R11 decides (log 5). -/
def Config.chip : Chip where
  charset          := Vector.ofFn Config.charset
  placeholder      := Vector.ofFn Config.placeholder
  perm             := Vector.ofFn (fun j => Config.perm j)
  flashMarkCode    := Config.flashMarkCode
  undefinedCode    := Config.undefinedCode
  dpCode           := Config.dpCode
  semiCode         := Config.semiCode
  glyphTriggerCode := Config.glyphTriggerCode
  dummyCode        := Config.dummyCode
  flashMarkBit     := Config.flashMarkBit
  dpBit            := Config.dpBit
  flashBReload     := 20
  low              := false

end Sys2Proof
end

