-- ==== Sys2Proof/Syntax.lean ====
section
/-! DEFINITION. The instructions: one constructor per row of `spec/opcode_table.json`, in the table's
order. Every form is one byte (`30_encoding.md` R101, R110). -/

namespace Sys2Proof

/-- The 29 command forms (R107). An F_CTRL2 form carries its two unused bits `x = b[3:2]` (R105), so that
every byte is some form's encoding bit for bit (log 7); they change no state. -/
inductive Instr where
  /-- UGDATA `d`: a raw glyph byte, while a load is pending (R151, R152). -/
  | ugdata (d : Byte)
  /-- FMARK: `FLASH_MARK_CODE` (R202). -/
  | fmark
  /-- UNDEF: `UNDEFINED_CODE` (R203). -/
  | undef
  /-- DPT: `DP_CODE` (R204). -/
  | dpt
  /-- SEMI: `SEMI_CODE` (R205). -/
  | semi
  /-- UGTRIG: `GLYPH_TRIGGER_CODE` (R206). -/
  | ugtrig
  /-- DUMMY: `DUMMY_CODE` (R207). -/
  | dummy
  /-- CHR `k`: a byte 0x00..0x3F that is no in-band code (R153). -/
  | chr (k : CharIx)
  /-- CHRX `k`: a byte `0x40 | k` (R153). -/
  | chrx (k : CharIx)
  /-- BLNK.ALL (R271). -/
  | blnkAll (x : Unused)
  /-- BLNK.WIN (R272). -/
  | blnkWin (x : Unused)
  /-- BLNK.OUT (R273). -/
  | blnkOut (x : Unused)
  /-- BLNK.OFF (R274). -/
  | blnkOff (x : Unused)
  /-- SETCUR `n` (R156). -/
  | setcur (n : Nibble)
  /-- MODE.RL (R157). -/
  | modeRl (x : Unused)
  /-- MODE.RR (R158). -/
  | modeRr (x : Unused)
  /-- MODE.SL (R159). -/
  | modeSl (x : Unused)
  /-- MODE.SR (R160). -/
  | modeSr (x : Unused)
  /-- CLR.NOP (R277). -/
  | clrNop (x : Unused)
  /-- CLR.WIN (R278). -/
  | clrWin (x : Unused)
  /-- CLR.OUT (R279). -/
  | clrOut (x : Unused)
  /-- CLR.ALL (R280). -/
  | clrAll (x : Unused)
  /-- FRATE `n` (R162). -/
  | frate (n : Nibble)
  /-- FCTL.NONE (R163). -/
  | fctlNone (x : Unused)
  /-- FCTL.IN (R164). -/
  | fctlIn (x : Unused)
  /-- FCTL.OUT (R165). -/
  | fctlOut (x : Unused)
  /-- FCTL.ALL (R166). -/
  | fctlAll (x : Unused)
  /-- WSTART `n` (R167). -/
  | wstart (n : Nibble)
  /-- WEND `n` (R168). -/
  | wend (n : Nibble)
deriving DecidableEq, Repr

/-- Whether the form is a glyph data byte: the one form that needs a pending load (the table's
`condition`, R101). -/
def Instr.isGlyphData : Instr → Bool
  | .ugdata _ => true
  | .fmark | .undef | .dpt | .semi | .ugtrig | .dummy | .chr _ | .chrx _ => false
  | .blnkAll _ | .blnkWin _ | .blnkOut _ | .blnkOff _ | .setcur _ => false
  | .modeRl _ | .modeRr _ | .modeSl _ | .modeSr _ => false
  | .clrNop _ | .clrWin _ | .clrOut _ | .clrAll _ => false
  | .frate _ | .fctlNone _ | .fctlIn _ | .fctlOut _ | .fctlAll _ => false
  | .wstart _ | .wend _ => false

end Sys2Proof
end

