-- ==== Sys2Proof/Machine/State.lean ====
section
/-! DEFINITION. The state of the block (`10_state.md` R30), the events that drive it (`60_exceptions.md`
R340), its diagnostics (R321), the reasons a step can stop, and the state after reset (R53). -/

namespace Sys2Proof.Machine

/-- A cell's attribute (R32, R33). -/
inductive Attr where
  | normal | flash | blank
deriving DecidableEq, Repr

/-- One display cell: a 16-bit pattern in logical order and an attribute (R32, R78). -/
structure Cell where
  pattern   : Word
  attr    : Attr
deriving DecidableEq, Repr

/-- The display mode (R39). -/
inductive Mode where
  | rotateLeft | rotateRight | scrollLeft | scrollRight
deriving DecidableEq, Repr

/-- The flash control (R42). -/
inductive FlashControl where
  | none | insideWindow | outsideWindow | all
deriving DecidableEq, Repr

/-- A diagnostic notice: its kind and the byte it records; its text is not specified (R321, D30).
There is no notice for an unrecognised high nibble: no byte reaches one (R169). -/
inductive Diag where
  | outOfRangeChar (b : Byte)
  | dutyControl (b : Byte)
deriving DecidableEq, Repr

/-- What the host gives back at a restore (R346): the fields of the source's list. Numbers are plain, so
that an image can hold a value out of range, which the model refuses (D32). -/
structure Image where
  cells        : Vector Cell 16
  cursorPos    : Nat
  pcursorPos   : Nat
  winStart     : Nat
  winEnd       : Nat
  mode         : Mode
  scrollActive : Bool
  flashRate    : Nat
  flashControl : FlashControl
  flashTimer   : Nat
  flashing     : Bool
  ugRemaining  : Nat
  ugAcc        : Word
  srCount      : Nat
  srAcc        : Byte
deriving DecidableEq, Repr

/-- What the host can do to the block: the four input events (R340), a byte given straight to the
dispatcher (R150, D27; log 2) and a restore (R346; log 9). -/
inductive Event where
  | clock (level : Bool)
  | data (level : Bool)
  | reset (level : Bool)
  | tick
  | submit (b : Byte)
  | restore (img : Image)
deriving DecidableEq, Repr

/-- No event and no instruction faults: "No fatal conditions" (R322). So no constructor: nothing raises
one, which is what the spec says and is safe. -/
inductive Fault where
deriving DecidableEq, Repr

/-- Why the model gives no next state. No input event of R340 ends in one. -/
inductive Refusal where
  /-- An instruction that has no meaning yet, by its mnemonic; raised by no arm of `exec`. Safe. -/
  | notModelled (mnemonic : String)
  /-- UGDATA executed while no glyph load is pending. Raised by `execUgdata` alone; no byte decodes to
  UGDATA in such a state (R101), so no step raises it. Safe (log 6). -/
  | noGlyphLoadPending
  /-- A restore of a value outside the ranges of R30. Raised by the restore event alone; the spec says a
  model refuses it (R346, D32). Safe (log 9). -/
  | restoreOutOfRange
deriving DecidableEq, Repr

end Sys2Proof.Machine

namespace Sys2Proof.Machine

/-- The state. The fields from `cells` to `out` are the spec's, in the order of R30 (`win_size` is derived,
R37). `chip` holds the read-only parameters (R10, R11, R71; log 3). `diags` is the diagnostic stream,
oldest first (R320; log 8). `inputs` is the list of events the host has yet to call, next one first
(R31, R340; log 1). -/
structure State where
  cells        : Vector Cell 16
  cursorPos    : Nibble
  pcursorPos   : Nibble
  winStart     : Nibble
  winEnd       : Nibble
  mode         : Mode
  scrollActive : Bool
  flashRate    : Nibble
  flashControl : FlashControl
  flashTimer   : Nat
  flashing     : Bool
  ugRemaining  : Nat
  ugAcc        : Word
  srCount      : Nat
  srAcc        : Byte
  clkLevel     : Bool
  dataLevel    : Bool
  out          : Vector Word 16
  chip         : Chip
  diags        : List Diag
  inputs       : List Event
deriving DecidableEq, Repr

/-- The machine right after reset: the table of R53. The parameters are Config's (log 3, log 5); the
diagnostic stream and the list of events to come start empty (log 1, log 8). -/
def State.reset : State where
  cells        := Vector.replicate 16 { pattern := 0#16, attr := .normal }
  cursorPos    := 0#4
  pcursorPos   := 0#4
  winStart     := 0#4
  winEnd       := 0#4
  mode         := .rotateLeft
  scrollActive := false
  flashRate    := 0#4
  flashControl := .none
  flashTimer   := 0
  flashing     := false
  ugRemaining  := 0
  ugAcc        := 0#16
  srCount      := 0
  srAcc        := 0#8
  clkLevel     := false
  dataLevel    := false
  out          := Vector.replicate 16 0#16
  chip         := Config.chip
  diags        := []
  inputs       := []

/-- What executing an instruction answers. -/
abbrev Result := Host.Outcome State Fault Refusal

end Sys2Proof.Machine
end

