-- ==== Sys2Proof/Machine/Ops.lean ====
section
/-! DEFINITION. The shared operations over the display buffer, the window, the sinks' bit order and the
diagnostic stream. The block takes no exception (R16, R325): `State.note` is what stands in its place. -/

namespace Sys2Proof.Machine

/-- A vector of 16 entries from its entry at each index. -/
def tabulate {α : Type} (f : CellIx → α) : Vector α 16 :=
  ⟨#[f 0, f 1, f 2, f 3, f 4, f 5, f 6, f 7, f 8, f 9, f 10, f 11, f 12, f 13, f 14, f 15], rfl⟩

/-- The cell a 4-bit position names: every value is a legal cell (R70, R74, R82). -/
def cellIx (n : Nibble) : CellIx := ⟨n.toNat, n.isLt⟩

/-! ### The numbers of the enumerations (R33, R39, R42): what a command's two-bit parameter or a save image
writes for each name -/

/-- Normal = 0, Flash = 1, Blank = 2 (R33, D8). -/
def Attr.number : Attr → Nat
  | .normal => 0
  | .flash  => 1
  | .blank  => 2

/-- RotateLeft = 0, RotateRight = 1, ScrollLeft = 2, ScrollRight = 3 (R39). -/
def Mode.number : Mode → Nat
  | .rotateLeft  => 0
  | .rotateRight => 1
  | .scrollLeft  => 2
  | .scrollRight => 3

/-- None = 0, InsideWindow = 1, OutsideWindow = 2, All = 3 (R42, D7). -/
def FlashControl.number : FlashControl → Nat
  | .none          => 0
  | .insideWindow  => 1
  | .outsideWindow => 2
  | .all           => 3

/-! ### Cells (R14, R32, R70, R79) -/

/-- Cell `i`. -/
def State.cell (s : State) (i : CellIx) : Cell := s.cells.get i

/-- `pat[i]`. -/
def State.pat (s : State) (i : CellIx) : Word := (s.cell i).pattern

/-- `attr[i]`. -/
def State.attr (s : State) (i : CellIx) : Attr := (s.cell i).attr

/-- The value last sent to sink `i` (R48). -/
def State.sink (s : State) (i : CellIx) : Word := s.out.get i

/-- All sixteen cells from a function of the index: every write of cells goes through here. -/
def State.setCells (s : State) (f : CellIx → Cell) : State := { s with cells := tabulate f }

/-- `pat[i] <- v`: the attribute is kept (R79, D9). -/
def State.setPat (s : State) (i : CellIx) (v : Word) : State :=
  s.setCells fun j => if j = i then { s.cell j with pattern := v } else s.cell j

/-- `attr[j] <- a j` for every cell: the patterns are kept (R79). -/
def State.setAttrs (s : State) (a : CellIx → Attr) : State :=
  s.setCells fun j => { s.cell j with attr := a j }

/-- `attr[j] <- a` for the cells of `range` (the loops of R270). -/
def State.setAttrsOn (s : State) (range : CellIx → Bool) (a : Attr) : State :=
  s.setAttrs fun j => if range j then a else s.attr j

/-- `pat[j] <- 0; attr[j] <- Normal` for the cells of `range` (the loops of R276). -/
def State.clearOn (s : State) (range : CellIx → Bool) : State :=
  s.setCells fun j => if range j then { pattern := 0#16, attr := .normal } else s.cell j

/-! ### Window (R36 to R38) -/

/-- `win_size = win_end - win_start + 1` on signed integers (R37). -/
def State.winSize (s : State) : Int := (s.winEnd.toNat : Int) - (s.winStart.toNat : Int) + 1

/-- `valid()`: `0 < win_size <= 16` (R38). -/
def State.winValid (s : State) : Bool := decide (0 < s.winSize ∧ s.winSize ≤ 16)

/-- `win_start <= i <= win_end`, the inclusive test of the flash controller; no validity check (R243). -/
def State.inWindow (s : State) (i : CellIx) : Bool :=
  decide (s.winStart.toNat ≤ i.val ∧ i.val ≤ s.winEnd.toNat)

/-- The mode used for one write: a scroll mode falls back to its rotate mode while the window is invalid
(R210). -/
def State.effectiveMode (s : State) : Mode :=
  if s.winValid then s.mode
  else match s.mode with
    | .rotateLeft  => .rotateLeft
    | .rotateRight => .rotateRight
    | .scrollLeft  => .rotateLeft
    | .scrollRight => .rotateRight

/-! ### Scroll shifts (R214, R216): whole cells, pattern and attribute (D10) -/

/-- `for i in win_start .. win_end - 1: cell[i] <- cell[i + 1]`. The loop ascends, so each cell receives
its right neighbour's old value (R214; log 14). -/
def State.shiftWindowLeft (s : State) : State :=
  s.setCells fun i =>
    if s.winStart.toNat ≤ i.val ∧ i.val < s.winEnd.toNat then s.cell (i + 1) else s.cell i

/-- `for i in win_end downto win_start + 1: cell[i] <- cell[i - 1]`. The loop descends, so each cell
receives its left neighbour's old value (R216; log 14). -/
def State.shiftWindowRight (s : State) : State :=
  s.setCells fun i =>
    if s.winStart.toNat < i.val ∧ i.val ≤ s.winEnd.toNat then s.cell (i - 1) else s.cell i

/-! ### Bits and the segment remapper (R303) -/

/-- The pattern with the one bit `i` set. -/
def bitMask (i : CellIx) : Word := 1#16 <<< i.val

/-- `v[i]`. -/
def bitAt (v : Word) (i : CellIx) : Bool := v.getLsbD i.val

/-- `q[i] <- v`. -/
def assignBit (q : Word) (i : CellIx) (v : Bool) : Word :=
  if v then q ||| bitMask i else q &&& ~~~ bitMask i

/-- The bit positions 0..15, in the order of the loop of R303. -/
def bitPositions : List CellIx := [0, 1, 2, 3, 4, 5, 6, 7, 8, 9, 10, 11, 12, 13, 14, 15]

/-- `REMAP(p)`: `for j in 0 .. 15: q[PERM(j)] <- p[j]`, from `q = 0` (R303). -/
def remap (c : Chip) (p : Word) : Word :=
  bitPositions.foldl (fun q j => assignBit q (c.perm.get j) (bitAt p j)) 0#16

/-! ### Diagnostics (R320) -/

/-- `diag(kind)`: appends one notice and changes nothing else (R320). -/
def State.note (s : State) (d : Diag) : State := { s with diags := s.diags ++ [d] }

end Sys2Proof.Machine
end

