-- ==== Sys2Proof/Machine/Flash.lean ====
section
/-! DEFINITION. The flash controller and the render (`43_flash_controller.md` R240 to R254). -/

namespace Sys2Proof.Machine

/-- The attribute the first flash phase gives cell `i` (R243 to R247); no validity check. -/
def firstPhaseAttr (s : State) (i : CellIx) : Attr :=
  match s.flashControl with
  | .insideWindow  => if s.inWindow i then .flash else .normal
  | .outsideWindow => if s.inWindow i then .normal else .flash
  | .all           => .flash
  | .none          => s.attr i

/-- First phase: an expiry with `flashing` clear reloads the timer, applies the attributes and sets the
flag (R243). -/
def firstPhase (s : State) : State :=
  { s.setAttrs (firstPhaseAttr s) with flashTimer := Config.flashReload, flashing := true }

/-- End of the second phase: the timer stops, every cell becomes Normal, and the flag is cleared unless
the control is None (R249, D15). -/
def endFlash (s : State) : State :=
  { s.setAttrs (fun _ => .normal) with
    flashTimer := 0
    flashing := if s.flashControl = .none then s.flashing else false }

/-- Second phase: an expiry with `flashing` set counts `flash_rate` down, modulo 16 (R248, D16); at 0 the
flash ends, else the timer is loaded with FLASH_B_RELOAD (D14). -/
def secondPhase (s : State) : State :=
  let counted := { s with flashRate := s.flashRate - 1#4 }
  if counted.flashRate = 0#4 then endFlash counted
  else { counted with flashTimer := s.chip.flashBReload }

/-- `flash_step()` (R240): nothing while the timer is stopped (R241); else count down, and act when the
count reaches 0 (R242). -/
def flashStep (s : State) : State :=
  if s.flashTimer = 0 then s
  else
    let counted := { s with flashTimer := s.flashTimer - 1 }
    if counted.flashTimer ≠ 0 then counted
    else if counted.flashing then secondPhase counted
    else firstPhase counted

/-- What a render sends to sink `i`: the remapped pattern of a Normal cell, else all off (R250, R251). -/
def State.visible (s : State) (i : CellIx) : Word :=
  if s.attr i = .normal then remap s.chip (s.pat i) else 0#16

/-- `render()`: writes all 16 sinks; stored patterns are not changed (R250, R304). -/
def render (s : State) : State := { s with out := tabulate s.visible }

/-- `refresh()`: the flash step, then the render (R252). -/
def refresh (s : State) : State := render (flashStep s)

/-- How every submitted byte ends: with one refresh (R170). -/
def endByte (s : State) : Result := .next (refresh s)

end Sys2Proof.Machine
end

