-- ==== Sys2Proof/Machine/BlankClear.lean ====
section
/-! DEFINITION. The blank and clear commands (`44_blank_clear.md` R270 to R281). Every range is the literal
one of the spec. -/

namespace Sys2Proof.Machine

/-- Cells 0..14: cell 15 is not included (R271, R274). -/
def allButLast (i : CellIx) : Bool := decide (i.val ≤ 14)

/-- `win_start ..< win_end`, end exclusive (R272). -/
def State.windowButEnd (s : State) (i : CellIx) : Bool :=
  decide (s.winStart.toNat ≤ i.val ∧ i.val < s.winEnd.toNat)

/-- `0 ..< win_start`, and, if `win_end < 15`, `win_end ..< 15 - win_end` (R273, R279). -/
def State.outsideRange (s : State) (i : CellIx) : Bool :=
  decide (i.val < s.winStart.toNat)
    || decide (s.winEnd.toNat < 15 ∧ s.winEnd.toNat ≤ i.val ∧ i.val < 15 - s.winEnd.toNat)

/-- The `size` cells from `win_start` on: `win_start .. win_start + win_size - 1` (R278). -/
def State.windowCells (s : State) (i : CellIx) : Bool :=
  decide ((s.winStart.toNat : Int) ≤ (i.val : Int) ∧ (i.val : Int) ≤ s.winStart.toNat + s.winSize - 1)

/-- `if valid(): …` (R272, R273, R278, R279). -/
def ifWindowValid (act : State → State) (s : State) : State := if s.winValid then act s else s

/-- BLNK.ALL (R271). The byte 0x84, and no other of the form, also emits the duty-control notice (R275);
it is the one with `b[3:2] = 1`. -/
def execBlnkAll (x : Unused) (s : State) : Result :=
  let s := if x = 1#2 then s.note (.dutyControl 0x84#8) else s
  endByte (s.setAttrsOn allButLast .blank)

/-- BLNK.WIN (R272). -/
def execBlnkWin (_x : Unused) (s : State) : Result :=
  endByte (ifWindowValid (fun s => s.setAttrsOn s.windowButEnd .blank) s)

/-- BLNK.OUT (R273). -/
def execBlnkOut (_x : Unused) (s : State) : Result :=
  endByte (ifWindowValid (fun s => s.setAttrsOn s.outsideRange .blank) s)

/-- BLNK.OFF (R274). -/
def execBlnkOff (_x : Unused) (s : State) : Result := endByte (s.setAttrsOn allButLast .normal)

/-- CLR.NOP (R277). -/
def execClrNop (_x : Unused) (s : State) : Result := endByte s

/-- CLR.WIN (R278). -/
def execClrWin (_x : Unused) (s : State) : Result :=
  endByte (ifWindowValid (fun s => s.clearOn s.windowCells) s)

/-- CLR.OUT (R279). -/
def execClrOut (_x : Unused) (s : State) : Result :=
  endByte (ifWindowValid (fun s => s.clearOn s.outsideRange) s)

/-- CLR.ALL (R280): all 16 cells. -/
def execClrAll (_x : Unused) (s : State) : Result := endByte (s.clearOn fun _ => true)

end Sys2Proof.Machine
end

