-- ==== Sys2Proof/WellFormed.lean ====
section
/-! DEFINITION. Which parameters and which instructions are well formed. The field widths of `Instr` and
`Chip` already hold every range of R10 and R106; what is left is checked here. -/

namespace Sys2Proof

/-- `PERM` is a bijection on 0..15 (R10): no two bit positions go to one. -/
abbrev Chip.permBijective (c : Chip) : Prop :=
  ∀ i j : CellIx, c.perm.get i = c.perm.get j → i = j

/-- The parameters are ones the spec allows: `PERM` is a bijection (R10) and the second-phase reload
stays in `flash_timer`'s range (R11, R43). -/
abbrev Chip.wf (c : Chip) : Prop :=
  c.permBijective ∧ c.flashBReload ≤ 20

/-- `k` is one of the six in-band codes (R10). -/
def Chip.isInBand (c : Chip) (k : CharIx) : Bool :=
  k == c.flashMarkCode || k == c.undefinedCode || k == c.dpCode || k == c.semiCode
    || k == c.glyphTriggerCode || k == c.dummyCode

/-- Well-formedness for the parameters `c`: an in-band form is one only if no code tested earlier has its
value (R201, the table's `priority`), and CHR's index is no in-band code (R153, the table's
`condition`). Every other form is well formed at every value of its operands. -/
def Instr.wf (c : Chip) : Instr → Bool
  | .fmark    => true
  | .undef    => c.undefinedCode != c.flashMarkCode
  | .dpt      => c.dpCode != c.flashMarkCode && c.dpCode != c.undefinedCode
  | .semi     => c.semiCode != c.flashMarkCode && c.semiCode != c.undefinedCode && c.semiCode != c.dpCode
  | .ugtrig   => c.glyphTriggerCode != c.flashMarkCode && c.glyphTriggerCode != c.undefinedCode
                  && c.glyphTriggerCode != c.dpCode && c.glyphTriggerCode != c.semiCode
  | .dummy    => c.dummyCode != c.flashMarkCode && c.dummyCode != c.undefinedCode && c.dummyCode != c.dpCode
                  && c.dummyCode != c.semiCode && c.dummyCode != c.glyphTriggerCode
  | .chr k    => !c.isInBand k
  | .ugdata _ | .chrx _ => true
  | .blnkAll _ | .blnkWin _ | .blnkOut _ | .blnkOff _ | .setcur _ => true
  | .modeRl _ | .modeRr _ | .modeSl _ | .modeSr _ => true
  | .clrNop _ | .clrWin _ | .clrOut _ | .clrAll _ => true
  | .frate _ | .fctlNone _ | .fctlIn _ | .fctlOut _ | .fctlAll _ => true
  | .wstart _ | .wend _ => true

end Sys2Proof
end

