-- ==== Sys2Proof/Decode.lean ====
section
/-! DEFINITION. The decoder (`30_encoding.md` R101 to R111) and, after it, the encoder. Which form a byte
is depends on the byte, on whether a glyph load is pending (R102) and on the in-band codes (R108). -/

namespace Sys2Proof

/-- The byte of an in-band code: a value 0x00..0x3F (R10). -/
def codeByte (code : CharIx) : Byte := 0#2 ++ code

/-- `b[5:0]`, the charset index of a character byte (R103). -/
def charField (b : Byte) : CharIx := b.extractLsb' 0 6

/-- `b[3:0]`, the parameter of an F_CTRL4 byte (R104, R106). -/
def nibbleField (b : Byte) : Nibble := b.extractLsb' 0 4

/-- `b[3:2]`, the unused bits of an F_CTRL2 byte (R105). -/
def unusedField (b : Byte) : Unused := b.extractLsb' 2 2

/-- A byte below 0x40: the in-band codes in the order of R201, compared on the whole byte, then CHR. -/
def decodeLowCharacter (c : Chip) (b : Byte) : Instr :=
  if b = codeByte c.flashMarkCode then .fmark
  else if b = codeByte c.undefinedCode then .undef
  else if b = codeByte c.dpCode then .dpt
  else if b = codeByte c.semiCode then .semi
  else if b = codeByte c.glyphTriggerCode then .ugtrig
  else if b = codeByte c.dummyCode then .dummy
  else .chr (charField b)

/-- The two-bit parameter `b[1:0]` of an F_CTRL2 byte picks one of four forms (R104, R105). -/
def byParameter (b : Byte) (f0 f1 f2 f3 : Unused → Instr) : Instr :=
  match b[1], b[0] with
  | false, false => f0 (unusedField b)
  | false, true  => f1 (unusedField b)
  | true,  false => f2 (unusedField b)
  | true,  true  => f3 (unusedField b)

/-- A byte from 0x80: its group `b[6:4]`, one arm each for 0x8 to 0xF (R104, R154). All eight are
covered, so there is no default arm (R169). -/
def decodeControl (b : Byte) : Instr :=
  match b[6], b[5], b[4] with
  | false, false, false => byParameter b .blnkAll .blnkWin .blnkOut .blnkOff
  | false, false, true  => .setcur (nibbleField b)
  | false, true,  false => byParameter b .modeRl .modeRr .modeSl .modeSr
  | false, true,  true  => byParameter b .clrNop .clrWin .clrOut .clrAll
  | true,  false, false => .frate (nibbleField b)
  | true,  false, true  => byParameter b .fctlNone .fctlIn .fctlOut .fctlAll
  | true,  true,  false => .wstart (nibbleField b)
  | true,  true,  true  => .wend (nibbleField b)

/-- The form of a byte, in the order of R101: glyph data while a load is pending, then character, then
control. Every byte has a meaning in every state (R107). -/
def decodeByte (c : Chip) (ugRemaining : Nat) (b : Byte) : Instr :=
  if 0 < ugRemaining then .ugdata b
  else if b[7] then decodeControl b
  else if b[6] then .chrx (charField b)
  else decodeLowCharacter c b

/-- Why the decoder reads no instruction. -/
inductive DecodeReject where
  /-- There is no byte to read. No byte is itself rejected (R107, R111). -/
  | noByte
deriving DecidableEq, Repr

/-- Reads one instruction off a list of bytes and gives back the rest: one form is one byte (R110). -/
def decode (c : Chip) (ugRemaining : Nat) : List Byte → Except DecodeReject (Instr × List Byte)
  | []        => .error .noByte
  | b :: rest => .ok (decodeByte c ugRemaining b, rest)

/-- The byte of an instruction, from the encoding column of the opcode table. -/
def encode (c : Chip) : Instr → Byte
  | .ugdata d   => d
  | .fmark      => 0b00#2 ++ c.flashMarkCode
  | .undef      => 0b00#2 ++ c.undefinedCode
  | .dpt        => 0b00#2 ++ c.dpCode
  | .semi       => 0b00#2 ++ c.semiCode
  | .ugtrig     => 0b00#2 ++ c.glyphTriggerCode
  | .dummy      => 0b00#2 ++ c.dummyCode
  | .chr k      => 0b00#2 ++ k
  | .chrx k     => 0b01#2 ++ k
  | .blnkAll x  => 0b1000#4 ++ x ++ 0b00#2
  | .blnkWin x  => 0b1000#4 ++ x ++ 0b01#2
  | .blnkOut x  => 0b1000#4 ++ x ++ 0b10#2
  | .blnkOff x  => 0b1000#4 ++ x ++ 0b11#2
  | .setcur n   => 0b1001#4 ++ n
  | .modeRl x   => 0b1010#4 ++ x ++ 0b00#2
  | .modeRr x   => 0b1010#4 ++ x ++ 0b01#2
  | .modeSl x   => 0b1010#4 ++ x ++ 0b10#2
  | .modeSr x   => 0b1010#4 ++ x ++ 0b11#2
  | .clrNop x   => 0b1011#4 ++ x ++ 0b00#2
  | .clrWin x   => 0b1011#4 ++ x ++ 0b01#2
  | .clrOut x   => 0b1011#4 ++ x ++ 0b10#2
  | .clrAll x   => 0b1011#4 ++ x ++ 0b11#2
  | .frate n    => 0b1100#4 ++ n
  | .fctlNone x => 0b1101#4 ++ x ++ 0b00#2
  | .fctlIn x   => 0b1101#4 ++ x ++ 0b01#2
  | .fctlOut x  => 0b1101#4 ++ x ++ 0b10#2
  | .fctlAll x  => 0b1101#4 ++ x ++ 0b11#2
  | .wstart n   => 0b1110#4 ++ n
  | .wend n     => 0b1111#4 ++ n

/-- What the decoder reads from a table word: one byte, read with the machine's own parameters and no
glyph load pending (log 17). A row is one byte, so any other width has no instruction. -/
def decodeTableWord (nbits w : Nat) : Option Instr :=
  if nbits = 8 then
    match decode Config.chip 0 [BitVec.ofNat 8 w] with
    | .ok (i, []) => some i
    | .ok (_, _ :: _) => none
    | .error _ => none
  else none

end Sys2Proof
end

