-- ==== Sys2Proof/Machine/Operands.lean ====
section
/-! DEFINITION. The operands: the character ROM at a 6-bit index (R71, R103, R300), the glyph pattern of
two data bytes (R77, R106) and the diagnostic a character byte emits (R153). The other operands are
plain unsigned fields of the byte, taken by the decoder (R106). -/

namespace Sys2Proof.Machine

/-- The charset index as an index of the 64-entry tables. -/
def charIx (k : CharIx) : Fin 64 := ⟨k.toNat, k.isLt⟩

/-- `CHARSET[k]` (R300). -/
def Chip.pattern (c : Chip) (k : CharIx) : Word := c.charset.get (charIx k)

/-- `k in PLACEHOLDER` (R302). -/
def Chip.isPlaceholder (c : Chip) (k : CharIx) : Bool := c.placeholder.get (charIx k)

/-- `trunc_16((acc << 8) | b)`: the first data byte ends as bits 15..8, the second as bits 7..0 (R77). -/
def glyphShift (acc : Word) (b : Byte) : Word := (acc <<< 8) ||| b.setWidth 16

/-- `if b > 0x3F or (b & 0x3F) in PLACEHOLDER: diag(OutOfRangeChar(b))`, one notice at most (R150, R321). -/
def noteCharacter (b : Byte) (s : State) : State :=
  if 0x3F#8 < b ∨ Chip.isPlaceholder s.chip (charField b) = true then s.note (.outOfRangeChar b) else s

end Sys2Proof.Machine
end

