-- ==== Sys2Proof/Machine/Cursor.lean ====
section
/-! DEFINITION. The write path and the cursor engine (`42_write_path.md` R200 to R217). -/

namespace Sys2Proof.Machine

/-! ### The cursor engine: the four mode steps (R211 to R216) -/

/-- `if change: pat[i] <- segdata`. -/
def writeIf (change : Bool) (i : CellIx) (segdata : Word) (s : State) : State :=
  if change then s.setPat i segdata else s

/-- RotateLeft: write at the cursor, then go one right, 15 to 0; the window is ignored (R211). -/
def rotateLeft (segdata : Word) (change : Bool) (s : State) : State :=
  { writeIf change (cellIx s.cursorPos) segdata s with cursorPos := s.cursorPos + 1#4 }

/-- RotateRight: write at the cursor, then go one left, 0 to 15; the window is ignored (R212). -/
def rotateRight (segdata : Word) (change : Bool) (s : State) : State :=
  { writeIf change (cellIx s.cursorPos) segdata s with cursorPos := s.cursorPos - 1#4 }

/-- The boundary's `scroll_active` arm: shift if the slot was already claimed, else claim it (R214, R216). -/
def shiftOrClaim (shift : State → State) (s : State) : State :=
  if s.scrollActive then shift s else { s with scrollActive := true }

/-- ScrollLeft: inside the window's end, write at the cursor and go one right (R213); at or beyond it,
shift or claim, then write at `win_end`, 0 when nothing is to be written (R214). -/
def scrollLeft (segdata : Word) (change : Bool) (s : State) : State :=
  if s.cursorPos.toNat < s.winEnd.toNat then
    { writeIf change (cellIx s.cursorPos) segdata s with
      scrollActive := false, cursorPos := s.cursorPos + 1#4 }
  else
    (shiftOrClaim State.shiftWindowLeft s).setPat (cellIx s.winEnd) (if change then segdata else 0#16)

/-- ScrollRight, the mirror about `win_start` (D11): above it, write at the cursor and go one left, with
the source's guard at 0 (R215); at or below it, shift or claim, then write at `win_start` (R216). -/
def scrollRight (segdata : Word) (change : Bool) (s : State) : State :=
  if s.winStart.toNat < s.cursorPos.toNat then
    { writeIf change (cellIx s.cursorPos) segdata s with
      scrollActive := false
      cursorPos := if s.cursorPos = 0#4 then 0#4 else s.cursorPos - 1#4 }
  else
    (shiftOrClaim State.shiftWindowRight s).setPat (cellIx s.winStart) (if change then segdata else 0#16)

/-- A move: `pcursor_pos` takes the cursor's place (R209), then the step of the effective mode (R210). -/
def move (segdata : Word) (change : Bool) (s : State) : State :=
  let s := { s with pcursorPos := s.cursorPos }
  match s.effectiveMode with
  | .rotateLeft  => rotateLeft segdata change s
  | .rotateRight => rotateRight segdata change s
  | .scrollLeft  => scrollLeft segdata change s
  | .scrollRight => scrollRight segdata change s

/-! ### The arms of setdata (R202 to R208) -/

/-- The flash-mark arm: a move that writes nothing if the last written cell carries the mark, else mark
that cell and give it the Flash attribute (R202, D12). -/
def flashMarkArm (segdata : Word) (s : State) : State :=
  let p := cellIx s.pcursorPos
  if bitAt (s.pat p) s.chip.flashMarkBit then move segdata false s
  else s.setCells fun j =>
    if j = p then { pattern := s.pat j ||| bitMask s.chip.flashMarkBit, attr := .flash } else s.cell j

/-- The decimal-point and semicolon arm: a move that writes nothing if the last written cell carries the
point, else set the point on that cell (R204, R205, D12, D13). -/
def decimalPointArm (segdata : Word) (s : State) : State :=
  let p := cellIx s.pcursorPos
  if bitAt (s.pat p) s.chip.dpBit then move segdata false s
  else s.setPat p (s.pat p ||| bitMask s.chip.dpBit)

/-- The glyph-trigger arm: two data bytes follow; the accumulator is not cleared (R206, D29). -/
def glyphTriggerArm (s : State) : State := { s with ugRemaining := Config.ugBytes }

/-- The dummy arm: a move that writes nothing (R207). -/
def dummyArm (segdata : Word) (s : State) : State := move segdata false s

/-- The normal arm: a move that writes `segdata` (R208). -/
def normalArm (segdata : Word) (s : State) : State := move segdata true s

/-- `setdata(segdata, opcode)`: the in-band codes in the order of R201, each compared with the whole
opcode byte (R200). -/
def setdata (segdata : Word) (opcode : Byte) (s : State) : State :=
  if opcode = codeByte s.chip.flashMarkCode then flashMarkArm segdata s
  else if opcode = codeByte s.chip.undefinedCode then s
  else if opcode = codeByte s.chip.dpCode then decimalPointArm segdata s
  else if opcode = codeByte s.chip.semiCode then decimalPointArm segdata s
  else if opcode = codeByte s.chip.glyphTriggerCode then glyphTriggerArm s
  else if opcode = codeByte s.chip.dummyCode then dummyArm segdata s
  else normalArm segdata s

end Sys2Proof.Machine
end

