-- ==== Sys2Proof/Machine/Characters.lean ====
section
/-! DEFINITION. The glyph data byte and the character bytes: UGDATA, FMARK, UNDEF, DPT, SEMI, UGTRIG,
DUMMY, CHR, CHRX. An in-band byte reaches its arm of setdata through the character branch, so it emits
the placeholder diagnostic when its own index is a placeholder (R150, R153). -/

namespace Sys2Proof.Machine

/-- UGDATA `d` (R151, R152): count down and shift the byte in; the byte that brings the count to 0 ends
the load through the write path, with the accumulator as pattern and `d` itself as opcode. With no load
pending the form does not exist (R101), and the model refuses it (log 6). -/
def execUgdata (d : Byte) (s : State) : Result :=
  match s.ugRemaining with
  | 0     => .refused .noGlyphLoadPending
  | n + 1 =>
    let taken := { s with ugRemaining := n, ugAcc := glyphShift s.ugAcc d }
    endByte (if n = 0 then setdata taken.ugAcc d taken else taken)

/-- FMARK (R202). -/
def execFmark (s : State) : Result :=
  endByte (flashMarkArm (Chip.pattern s.chip s.chip.flashMarkCode)
    (noteCharacter (codeByte s.chip.flashMarkCode) s))

/-- UNDEF (R203): nothing but the byte's diagnostic and refresh. -/
def execUndef (s : State) : Result :=
  endByte (noteCharacter (codeByte s.chip.undefinedCode) s)

/-- DPT (R204). -/
def execDpt (s : State) : Result :=
  endByte (decimalPointArm (Chip.pattern s.chip s.chip.dpCode) (noteCharacter (codeByte s.chip.dpCode) s))

/-- SEMI (R205): the effect of DPT. -/
def execSemi (s : State) : Result :=
  endByte (decimalPointArm (Chip.pattern s.chip s.chip.semiCode)
    (noteCharacter (codeByte s.chip.semiCode) s))

/-- UGTRIG (R206). -/
def execUgtrig (s : State) : Result :=
  endByte (glyphTriggerArm (noteCharacter (codeByte s.chip.glyphTriggerCode) s))

/-- DUMMY (R207). -/
def execDummy (s : State) : Result :=
  endByte (dummyArm (Chip.pattern s.chip s.chip.dummyCode) (noteCharacter (codeByte s.chip.dummyCode) s))

/-- CHR `k` (R153, R208). -/
def execChr (k : CharIx) (s : State) : Result :=
  endByte (normalArm (Chip.pattern s.chip k) (noteCharacter (0b00#2 ++ k) s))

/-- CHRX `k` (R153, R208): the diagnostic, then the write of the entry at `k`. -/
def execChrx (k : CharIx) (s : State) : Result :=
  endByte (normalArm (Chip.pattern s.chip k) (noteCharacter (0b01#2 ++ k) s))

end Sys2Proof.Machine
end

