-- ==== Sys2Proof/Machine/Flags.lean ====
section
/-! DEFINITION. The two status flags, `scroll_active` and `flashing` (R52), where a command computes them.
The write path's own settings of `scroll_active` stand with the cursor engine (R213 to R216), the flash
step's of `flashing` with the flash controller (R243, R249). -/

namespace Sys2Proof.Machine

/-- The flag SETCUR and WEND leave, from the cursor and window end they have just written: set when the
STORED mode is ScrollLeft and the cursor is at or beyond the window's end; no validity check and no
ScrollRight counterpart (R156, R168). -/
def scrollActiveFor (m : Mode) (cursor winEnd : Nibble) : Bool :=
  decide (m = .scrollLeft ∧ winEnd.toNat ≤ cursor.toNat)

/-- "Stop flashing", in FRATE 0 and FCTL.NONE: clears the flag and nothing else (R162, R163, D25). -/
def State.stopFlashing (s : State) : State := if s.flashing then { s with flashing := false } else s

end Sys2Proof.Machine
end

