-- ==== Sys2Proof/Machine/Control.lean ====
section
/-! DEFINITION. The cursor, mode, window and flash-setting commands (`41_command_dispatch.md` R156 to R168). -/

namespace Sys2Proof.Machine

/-- SETCUR `n` (R156): nothing is clamped, and `pcursor_pos` is kept. -/
def execSetcur (n : Nibble) (s : State) : Result :=
  endByte { s with cursorPos := n, scrollActive := scrollActiveFor s.mode n s.winEnd }

/-- MODE.RL (R157). -/
def execModeRl (_x : Unused) (s : State) : Result := endByte { s with mode := .rotateLeft }

/-- MODE.RR (R158). -/
def execModeRr (_x : Unused) (s : State) : Result := endByte { s with mode := .rotateRight }

/-- MODE.SL (R159): `scroll_active` is not recomputed. -/
def execModeSl (_x : Unused) (s : State) : Result := endByte { s with mode := .scrollLeft }

/-- MODE.SR (R160). -/
def execModeSr (_x : Unused) (s : State) : Result := endByte { s with mode := .scrollRight }

/-- FRATE `n` (R162): a rate of 0 stops the flashing flag; the timer is loaded whatever `n` is. -/
def execFrate (n : Nibble) (s : State) : Result :=
  let rated := { s with flashRate := n }
  let stopped := if n = 0#4 then rated.stopFlashing else rated
  endByte { stopped with flashTimer := Config.flashReload }

/-- FCTL.NONE (R163): attributes and timer are kept. -/
def execFctlNone (_x : Unused) (s : State) : Result := endByte ({ s with flashControl := .none } : State).stopFlashing

/-- FCTL.IN (R164). -/
def execFctlIn (_x : Unused) (s : State) : Result := endByte { s with flashControl := .insideWindow }

/-- FCTL.OUT (R165). -/
def execFctlOut (_x : Unused) (s : State) : Result := endByte { s with flashControl := .outsideWindow }

/-- FCTL.ALL (R166). -/
def execFctlAll (_x : Unused) (s : State) : Result := endByte { s with flashControl := .all }

/-- WSTART `n` (R167). -/
def execWstart (n : Nibble) (s : State) : Result := endByte { s with winStart := n }

/-- WEND `n` (R168): in ScrollLeft mode a cursor at or beyond the new end is clamped to it; the stored mode
counts, and validity is not checked. -/
def execWend (n : Nibble) (s : State) : Result :=
  endByte { s with
    winEnd := n
    scrollActive := scrollActiveFor s.mode s.cursorPos n
    cursorPos := if scrollActiveFor s.mode s.cursorPos n then n else s.cursorPos }

end Sys2Proof.Machine
end

