-- ==== Sys2Proof/Machine/Dispatch.lean ====
section
/-! DEFINITION. One arm per instruction (`41_command_dispatch.md` R150, R154). The unused bits of an F_CTRL2
form are handed to its meaning, which ignores them but for BLNK.ALL's duty-control notice (R105, R171). -/

namespace Sys2Proof.Machine

def exec (i : Instr) (s : State) : Host.Outcome State Fault Refusal :=
  match i with
  | .ugdata d => Sys2Proof.Machine.execUgdata d s
  | .fmark => Sys2Proof.Machine.execFmark s
  | .undef => Sys2Proof.Machine.execUndef s
  | .dpt => Sys2Proof.Machine.execDpt s
  | .semi => Sys2Proof.Machine.execSemi s
  | .ugtrig => Sys2Proof.Machine.execUgtrig s
  | .dummy => Sys2Proof.Machine.execDummy s
  | .chr k => Sys2Proof.Machine.execChr k s
  | .chrx k => Sys2Proof.Machine.execChrx k s
  | .blnkAll x => Sys2Proof.Machine.execBlnkAll x s
  | .blnkWin x => Sys2Proof.Machine.execBlnkWin x s
  | .blnkOut x => Sys2Proof.Machine.execBlnkOut x s
  | .blnkOff x => Sys2Proof.Machine.execBlnkOff x s
  | .setcur n => Sys2Proof.Machine.execSetcur n s
  | .modeRl x => Sys2Proof.Machine.execModeRl x s
  | .modeRr x => Sys2Proof.Machine.execModeRr x s
  | .modeSl x => Sys2Proof.Machine.execModeSl x s
  | .modeSr x => Sys2Proof.Machine.execModeSr x s
  | .clrNop x => Sys2Proof.Machine.execClrNop x s
  | .clrWin x => Sys2Proof.Machine.execClrWin x s
  | .clrOut x => Sys2Proof.Machine.execClrOut x s
  | .clrAll x => Sys2Proof.Machine.execClrAll x s
  | .frate n => Sys2Proof.Machine.execFrate n s
  | .fctlNone x => Sys2Proof.Machine.execFctlNone x s
  | .fctlIn x => Sys2Proof.Machine.execFctlIn x s
  | .fctlOut x => Sys2Proof.Machine.execFctlOut x s
  | .fctlAll x => Sys2Proof.Machine.execFctlAll x s
  | .wstart n => Sys2Proof.Machine.execWstart n s
  | .wend n => Sys2Proof.Machine.execWend n s

end Sys2Proof.Machine
end

