-- ==== Sys2Proof/Machine/Events.lean ====
section
/-! DEFINITION. The events: the serial receiver's `clock` and `data` (`40_shift_register.md` R130 to R139),
`reset` (`70_reset_and_hazards.md` R350), `tick` (`43_flash_controller.md` R254), the byte entry `submit`
(`41_command_dispatch.md` R150) and the host's restore (`60_exceptions.md` R346). -/

namespace Sys2Proof.Machine

/-- `submit(b)`: the byte is read as the form it is in this state, and that instruction runs, its closing
refresh included (R150, R170). -/
def submit (b : Byte) (s : State) : Result := exec (decodeByte s.chip s.ugRemaining b) s

/-- The next state of a result, changed by `f`; a stop stays what it is. -/
def thenNext (r : Result) (f : State → State) : Result :=
  match r with
  | .next s    => .next (f s)
  | .fault e   => .fault e
  | .refused e => .refused e

/-! ### The serial receiver -/

/-- A call samples a bit when its level differs from the stored one and the stored one is low (R131). -/
def samples (level : Bool) (s : State) : Bool := level != s.clkLevel && s.clkLevel == s.chip.low

/-- Sampling: the accumulator shifts left and takes the bit, 1 for a low data line; the count goes up (R132,
R133). -/
def sampleBit (s : State) : State :=
  { s with
    srAcc := (s.srAcc <<< 1) ||| (if s.dataLevel = s.chip.low then 1#8 else 0#8)
    srCount := s.srCount + 1 }

/-- After a completed byte: counter and accumulator go to 0 (R133). -/
def clearReceiver (s : State) : State := { s with srCount := 0, srAcc := 0#8 }

/-- How every `clock` call ends: the level is stored (R134) and one refresh runs (R135). -/
def endClock (level : Bool) (s : State) : State := refresh { s with clkLevel := level }

/-- `clock(level)` (R130). The byte of the eighth sampled bit is submitted before the receiver is cleared
and the level stored (R133), so that call runs two refreshes (R135). -/
def clock (level : Bool) (s : State) : Result :=
  if samples level s then
    let sampled := sampleBit s
    if sampled.srCount = 8 then
      thenNext (submit sampled.srAcc sampled) (fun s => endClock level (clearReceiver s))
    else .next (endClock level sampled)
  else .next (endClock level s)

/-- `data(level)`: stores the level and does nothing else (R136, D3). -/
def data (level : Bool) (s : State) : Result := .next { s with dataLevel := level }

/-! ### Reset, tick, restore -/

/-- The state `reset(false)` leaves: every field of R53; the parameters, the diagnostic stream (D24) and the
events still to come are not the block's state and stay. -/
def State.reinitialized (s : State) : State :=
  { State.reset with chip := s.chip, diags := s.diags, inputs := s.inputs }

/-- `reset(level)`: active low, at once, with no refresh; `reset(true)` does nothing (R350, R352, D5). -/
def reset (level : Bool) (s : State) : Result := .next (if level then s else s.reinitialized)

/-- `tick()`: one refresh (R254). -/
def tick (s : State) : Result := .next (refresh s)

/-- The ranges of R30, for the fields an image holds as plain numbers (D32). -/
def Image.inRange (m : Image) : Bool :=
  decide (m.cursorPos ≤ 15 ∧ m.pcursorPos ≤ 15 ∧ m.winStart ≤ 15 ∧ m.winEnd ≤ 15 ∧ m.flashRate ≤ 15
    ∧ m.flashTimer ≤ 20 ∧ m.ugRemaining ≤ 2 ∧ m.srCount ≤ 7)

/-- The image of a state: the fields the source lists as saveable (R346). -/
def State.save (s : State) : Image where
  cells        := s.cells
  cursorPos    := s.cursorPos.toNat
  pcursorPos   := s.pcursorPos.toNat
  winStart     := s.winStart.toNat
  winEnd       := s.winEnd.toNat
  mode         := s.mode
  scrollActive := s.scrollActive
  flashRate    := s.flashRate.toNat
  flashControl := s.flashControl
  flashTimer   := s.flashTimer
  flashing     := s.flashing
  ugRemaining  := s.ugRemaining
  ugAcc        := s.ugAcc
  srCount      := s.srCount
  srAcc        := s.srAcc

/-- The state with an image's fields; the line levels and the sinks are in no image (log 9). -/
def State.load (s : State) (m : Image) : State :=
  { s with
    cells        := m.cells
    cursorPos    := BitVec.ofNat 4 m.cursorPos
    pcursorPos   := BitVec.ofNat 4 m.pcursorPos
    winStart     := BitVec.ofNat 4 m.winStart
    winEnd       := BitVec.ofNat 4 m.winEnd
    mode         := m.mode
    scrollActive := m.scrollActive
    flashRate    := BitVec.ofNat 4 m.flashRate
    flashControl := m.flashControl
    flashTimer   := m.flashTimer
    flashing     := m.flashing
    ugRemaining  := m.ugRemaining
    ugAcc        := m.ugAcc
    srCount      := m.srCount
    srAcc        := m.srAcc }

/-- A restore: refused when a value is out of range (D32), else the image's fields and one render, without
a flash step (R346, D19). -/
def restore (m : Image) (s : State) : Result :=
  if m.inRange then .next (render (s.load m)) else .refused .restoreOutOfRange

/-- One event, run to completion (R80, R340). -/
def handle (e : Event) (s : State) : Result :=
  match e with
  | .clock level => clock level s
  | .data level  => data level s
  | .reset level => reset level s
  | .tick        => tick s
  | .submit b    => submit b s
  | .restore m   => restore m s

/-! ### Event sequences the spec names (R100, R113) -/

/-- The three events that send one bit: the data line low for a 1, then a clock pulse (R100). -/
def sendBit (low bit : Bool) : List Event :=
  [.data (if bit then low else !low), .clock (!low), .clock low]

/-- `SEND b`: the 24 pin events of one byte, most significant bit first (R100, R113). -/
def sendByte (low : Bool) (b : Byte) : List Event :=
  sendBit low b[7] ++ sendBit low b[6] ++ sendBit low b[5] ++ sendBit low b[4]
    ++ sendBit low b[3] ++ sendBit low b[2] ++ sendBit low b[1] ++ sendBit low b[0]

/-- `UGLOAD p`: the trigger and the two bytes of `p`, high byte first (R109, R113). -/
def ugload (c : Chip) (p : Word) : List Event :=
  [.submit (codeByte c.glyphTriggerCode), .submit (p.extractLsb' 8 8), .submit (p.extractLsb' 0 8)]

/-- `WINDOW s, e` (R113). -/
def window (c : Chip) (first last : Nibble) : List Event :=
  [.submit (encode c (.wstart first)), .submit (encode c (.wend last))]

/-- `TICKS n` (R113). -/
def ticks (n : Nat) : List Event := List.replicate n .tick

/-- `CLS` (R113). -/
def cls (c : Chip) : List Event := [.submit (encode c (.clrAll 0))]

/-- `HOME` (R113). -/
def home (c : Chip) : List Event := [.submit (encode c (.setcur 0))]

end Sys2Proof.Machine
end

