-- ==== Sys2Proof/Machine/Step.lean ====
section
/-! DEFINITION. One step: the block runs the host's next event (R31, R84). -/

namespace Sys2Proof.Machine

/-- One step: the next event of the host's list, run to completion. With no event to come the block waits:
nothing of it changes without one (R8, R353; log 1). -/
def step (s : State) : Host.Outcome State Fault Refusal :=
  match s.inputs with
  | []        => .next s
  | e :: rest => handle e { s with inputs := rest }

/-- The state with an instruction's byte as the host's next event (log 2). Every instruction is one byte, so
only the low eight bits of the word count. -/
def State.withFetchWord (s : State) (_nbits w : Nat) : State :=
  { s with inputs := .submit (BitVec.ofNat 8 w) :: s.inputs }

end Sys2Proof.Machine
end

