-- ==== Sys2Proof/Machine/Pseudocode.lean ====
section
/-! DEFINITION. The dispatcher and the write path a second time, transcribed line by line from the
pseudocode of R150, R156, R162, R163, R168, R200, R211 to R216, R270 and R276, with its loops as loops and
its byte tests as arithmetic on the byte. The machine does not run this text: a statement says that
decoding and executing a byte (`submit`) is the same (log 14). -/

namespace Sys2Proof.Machine.Pseudo

open Sys2Proof.Machine

/-- `for i in lo ..< hi`, ascending (R17). -/
def forUp (lo hi : Nat) (body : Nat → State → State) (s : State) : State :=
  (List.range' lo (hi - lo)).foldl (fun s i => body i s) s

/-- `for i in hi - 1 downto lo`, descending (R17). -/
def forDown (lo hi : Nat) (body : Nat → State → State) (s : State) : State :=
  (List.range' lo (hi - lo)).reverse.foldl (fun s i => body i s) s

/-- Cell number `i`; every loop bound of the spec is within 0..15 (R74). -/
def cellNo (i : Nat) : CellIx := Fin.ofNat 16 i

/-- `attr[i] <- a`. -/
def setAttr (a : Attr) (i : Nat) (s : State) : State :=
  s.setCells fun k => if k = cellNo i then { s.cell k with attr := a } else s.cell k

/-- `pat[i] <- 0; attr[i] <- Normal`. -/
def zeroCell (i : Nat) (s : State) : State :=
  s.setCells fun k => if k = cellNo i then { pattern := 0#16, attr := .normal } else s.cell k

/-- `cell[i] <- cell[j]` (R14). -/
def copyCell (i j : Nat) (s : State) : State :=
  s.setCells fun k => if k = cellNo i then s.cell (cellNo j) else s.cell k

/-- `blank(code)` (R270). -/
def blank (code : Byte) (s : State) : State :=
  if code = 0#8 then forUp 0 15 (setAttr .blank) s
  else if code = 1#8 then
    if s.winValid then forUp s.winStart.toNat s.winEnd.toNat (setAttr .blank) s else s
  else if code = 2#8 then
    if s.winValid then
      let t := forUp 0 s.winStart.toNat (setAttr .blank) s
      if s.winEnd.toNat < 15 then forUp s.winEnd.toNat (15 - s.winEnd.toNat) (setAttr .blank) t else t
    else s
  else forUp 0 15 (setAttr .normal) s

/-- `clear(code)` (R276). -/
def clear (code : Byte) (s : State) : State :=
  if code = 0#8 then s
  else if code = 1#8 then
    if s.winValid then forUp s.winStart.toNat (s.winStart.toNat + s.winSize.toNat) zeroCell s else s
  else if code = 2#8 then
    if s.winValid then
      let t := forUp 0 s.winStart.toNat zeroCell s
      if s.winEnd.toNat < 15 then forUp s.winEnd.toNat (15 - s.winEnd.toNat) zeroCell t else t
    else s
  else forUp 0 16 zeroCell s

/-- `scroll_left(segdata, change)` (R213, R214). -/
def scrollLeft (segdata : Word) (change : Bool) (s : State) : State :=
  if s.cursorPos < s.winEnd then
    let s := { s with scrollActive := false }
    let s := if change then s.setPat (cellIx s.cursorPos) segdata else s
    { s with cursorPos := s.cursorPos + 1#4 }
  else
    let s :=
      if s.scrollActive then
        forUp s.winStart.toNat s.winEnd.toNat (fun i => copyCell i (i + 1)) s
      else { s with scrollActive := true }
    s.setPat (cellIx s.winEnd) (if change then segdata else 0#16)

/-- `scroll_right(segdata, change)` (R215, R216). -/
def scrollRight (segdata : Word) (change : Bool) (s : State) : State :=
  if s.winStart < s.cursorPos then
    let s := { s with scrollActive := false }
    let s := if change then s.setPat (cellIx s.cursorPos) segdata else s
    if s.cursorPos = 0#4 then { s with cursorPos := 0#4 } else { s with cursorPos := s.cursorPos - 1#4 }
  else
    let s :=
      if s.scrollActive then
        forDown (s.winStart.toNat + 1) (s.winEnd.toNat + 1) (fun i => copyCell i (i - 1)) s
      else { s with scrollActive := true }
    s.setPat (cellIx s.winStart) (if change then segdata else 0#16)

/-- `rotate_left(segdata, change)` (R211). -/
def rotateLeft (segdata : Word) (change : Bool) (s : State) : State :=
  let s := { s with cursorPos := s.cursorPos &&& 0xF#4 }
  let s := if change then s.setPat (cellIx s.cursorPos) segdata else s
  { s with cursorPos := BitVec.ofNat 4 ((s.cursorPos.toNat + 1) % 16) }

/-- `rotate_right(segdata, change)` (R212). -/
def rotateRight (segdata : Word) (change : Bool) (s : State) : State :=
  let s := { s with cursorPos := s.cursorPos &&& 0xF#4 }
  let s := if change then s.setPat (cellIx s.cursorPos) segdata else s
  { s with cursorPos := BitVec.ofInt 4 (((s.cursorPos.toNat : Int) - 1) % 16) }

/-- `effective_mode()` (R210). -/
def effectiveMode (s : State) : Mode :=
  if !s.winValid && s.mode == .scrollLeft then .rotateLeft
  else if !s.winValid && s.mode == .scrollRight then .rotateRight
  else s.mode

/-- The in-band tests of `setdata`: the state they leave, with `move` and `change` (R200, first half). -/
def inBand (opcode : Byte) (s : State) : State × Bool × Bool :=
  let p := cellIx s.pcursorPos
  if opcode = codeByte s.chip.flashMarkCode then
    if bitAt (s.pat p) s.chip.flashMarkBit then (s, true, false)
    else
      let s := s.setPat p (s.pat p ||| bitMask s.chip.flashMarkBit)
      (setAttr .flash p.val s, false, false)
  else if opcode = codeByte s.chip.undefinedCode then (s, false, false)
  else if opcode = codeByte s.chip.dpCode ∨ opcode = codeByte s.chip.semiCode then
    if bitAt (s.pat p) s.chip.dpBit then (s, true, false)
    else (s.setPat p (s.pat p ||| bitMask s.chip.dpBit), false, false)
  else if opcode = codeByte s.chip.glyphTriggerCode then ({ s with ugRemaining := 2 }, false, false)
  else if opcode = codeByte s.chip.dummyCode then (s, true, false)
  else (s, true, true)

/-- `setdata(segdata, opcode)` (R200). -/
def setdata (segdata : Word) (opcode : Byte) (s : State) : State :=
  match inBand opcode s with
  | (s, false, _) => s
  | (s, true, change) =>
    let s := { s with pcursorPos := s.cursorPos }
    match effectiveMode s with
    | .rotateLeft  => rotateLeft segdata change s
    | .rotateRight => rotateRight segdata change s
    | .scrollLeft  => scrollLeft segdata change s
    | .scrollRight => scrollRight segdata change s

/-- `setcur(b)` (R156). -/
def setcur (b : Byte) (s : State) : State :=
  let s := { s with cursorPos := (b &&& 0x0F#8).setWidth 4 }
  let s := { s with scrollActive := false }
  if s.mode = .scrollLeft ∧ s.cursorPos ≥ s.winEnd then { s with scrollActive := true } else s

/-- `s.mode <- b & 0x03`, with the numbers of R39. -/
def setMode (b : Byte) (s : State) : State :=
  let n := b &&& 0x03#8
  { s with mode := if n = 0#8 then .rotateLeft else if n = 1#8 then .rotateRight
                   else if n = 2#8 then .scrollLeft else .scrollRight }

/-- `frate(b)` (R162). -/
def frate (b : Byte) (s : State) : State :=
  let s := { s with flashRate := (b &&& 0x0F#8).setWidth 4 }
  let s := if s.flashRate = 0#4 ∧ s.flashing = true then { s with flashing := false } else s
  { s with flashTimer := 20 }

/-- `fctl(b)`, with the numbers of R42 (R163 to R166). -/
def fctl (b : Byte) (s : State) : State :=
  let n := b &&& 0x03#8
  if n = 0#8 then
    let s := { s with flashControl := .none }
    if s.flashing then { s with flashing := false } else s
  else { s with flashControl := if n = 1#8 then .insideWindow else if n = 2#8 then .outsideWindow else .all }

/-- `wend(b)` (R168). -/
def wend (b : Byte) (s : State) : State :=
  let s := { s with winEnd := (b &&& 0x0F#8).setWidth 4 }
  let s := { s with scrollActive := false }
  if s.mode = .scrollLeft ∧ s.cursorPos ≥ s.winEnd then
    { s with scrollActive := true, cursorPos := s.winEnd }
  else s

/-- The control arms of R150, by `b[7:4]`. -/
def control (b : Byte) (s : State) : State :=
  let group := b >>> 4
  if group = 0x8#8 then
    let s := if b = 0x84#8 then s.note (.dutyControl b) else s
    blank (b &&& 0x03#8) s
  else if group = 0x9#8 then setcur b s
  else if group = 0xA#8 then setMode b s
  else if group = 0xB#8 then clear (b &&& 0x03#8) s
  else if group = 0xC#8 then frate b s
  else if group = 0xD#8 then fctl b s
  else if group = 0xE#8 then { s with winStart := (b &&& 0x0F#8).setWidth 4 }
  else wend b s

/-- `submit(b)` (R150). -/
def submit (b : Byte) (s : State) : State :=
  refresh
    (if 0 < s.ugRemaining then
      let s := { s with ugRemaining := s.ugRemaining - 1 }
      let s := { s with ugAcc := (s.ugAcc <<< 8) ||| b.setWidth 16 }
      if s.ugRemaining = 0 then setdata s.ugAcc b s else s
    else if b < 0x80#8 then
      let k := (b &&& 0x3F#8).setWidth 6
      let s := if 0x3F#8 < b ∨ Chip.isPlaceholder s.chip k = true then s.note (.outOfRangeChar b) else s
      setdata (Chip.pattern s.chip k) b s
    else control b s)

end Sys2Proof.Machine.Pseudo
end

