-- ==== Sys2Proof/Safety.lean ====
section
/-! DEFINITION. What the claims speak of: when a machine goes on, the invariants of the state, and the
small runs a claim needs. -/

namespace Sys2Proof.Machine

/-- The machine went on: a next state, no fault and no refusal. -/
def goesOn (r : Result) : Prop := ∃ t, r = .next t

/-- The ranges of R50 that the fields' types do not hold already, and allowed parameters (R10, R11). -/
def State.inRange (s : State) : Prop :=
  s.flashTimer ≤ 20 ∧ s.ugRemaining ≤ 2 ∧ s.srCount ≤ 7 ∧ s.chip.wf

/-- The partial byte: `sr_count` sampled bits stand in the low bits of `sr_acc`, and every bit above them is
0 (R132, R139). -/
def State.receiverAligned (s : State) : Prop := s.srAcc.toNat < 2 ^ s.srCount

/-- Every sink shows its cell: the remapped pattern of a Normal cell, all off otherwise (R250, R345). -/
def State.sinksShowCells (s : State) : Prop :=
  ∀ i : CellIx, s.sink i = if s.attr i = .normal then remap s.chip (s.pat i) else 0#16

/-- The next event is a restore, the one event that can bring in any in-range values (R346). -/
def State.nextIsRestore (s : State) : Prop := ∃ m rest, s.inputs = .restore m :: rest

/-- The events the spec gives an effect without any condition: all but a restore out of range (R322, D32). -/
def Event.total : Event → Prop
  | .restore m => m.inRange = true
  | .clock _ | .data _ | .reset _ | .tick | .submit _ => True

/-- The state without its diagnostic stream (R320: no rule reads it). -/
def State.withoutDiags (s : State) : State := { s with diags := [] }

/-- The state with other sink values (R48: no command reads them). -/
def State.withSinks (s : State) (o : Vector Word 16) : State := { s with out := o }

/-- The forms that reach the write path and may move the cursor (R200): the glyph data byte and the
character bytes, but UNDEF and UGTRIG, which never move it (R203, R206). -/
def mayMove : Instr → Prop
  | .ugdata _ | .fmark | .dpt | .semi | .dummy | .chr _ | .chrx _ => True
  | .undef | .ugtrig => False
  | .blnkAll _ | .blnkWin _ | .blnkOut _ | .blnkOff _ | .setcur _ => False
  | .modeRl _ | .modeRr _ | .modeSl _ | .modeSr _ => False
  | .clrNop _ | .clrWin _ | .clrOut _ | .clrAll _ => False
  | .frate _ | .fctlNone _ | .fctlIn _ | .fctlOut _ | .fctlAll _ => False
  | .wstart _ | .wend _ => False

/-- The forms that store no pattern: all but the write path's and the three that clear cells. -/
def storesNoPattern : Instr → Prop
  | .undef | .ugtrig => True
  | .blnkAll _ | .blnkWin _ | .blnkOut _ | .blnkOff _ | .setcur _ => True
  | .modeRl _ | .modeRr _ | .modeSl _ | .modeSr _ | .clrNop _ => True
  | .frate _ | .fctlNone _ | .fctlIn _ | .fctlOut _ | .fctlAll _ => True
  | .wstart _ | .wend _ => True
  | .ugdata _ | .fmark | .dpt | .semi | .dummy | .chr _ | .chrx _ => False
  | .clrWin _ | .clrOut _ | .clrAll _ => False

/-- The forms that store no attribute of their own: a write keeps it (R217), and what is left is the flash
step's. A scroll shift moves attributes with their cells (D10), so the moving forms are not among them. -/
def storesNoAttr : Instr → Prop
  | .undef | .ugtrig | .setcur _ => True
  | .modeRl _ | .modeRr _ | .modeSl _ | .modeSr _ | .clrNop _ => True
  | .frate _ | .fctlNone _ | .fctlIn _ | .fctlOut _ | .fctlAll _ => True
  | .wstart _ | .wend _ => True
  | .blnkAll _ | .blnkWin _ | .blnkOut _ | .blnkOff _ => False
  | .ugdata _ | .fmark | .dpt | .semi | .dummy | .chr _ | .chrx _ => False
  | .clrWin _ | .clrOut _ | .clrAll _ => False

/-- Instructions run one after the other, stopping at the first that gives no next state. -/
def runInstrs : List Instr → State → Result
  | [], s => .next s
  | i :: rest, s =>
    match exec i s with
    | .next t    => runInstrs rest t
    | .fault e   => .fault e
    | .refused e => .refused e

end Sys2Proof.Machine
end

