-- ==== Sys2Proof/Certificates/Slice0/Obligations.lean ====
section
/-! DEFINITION. The statements for the provers. Each docstring names the rules of `spec/` it formalises.
A statement over every state is a statement over every value of the open parameters, which a state
carries in `chip` (log 3). -/

open Sys2Proof Sys2Proof.Machine

/-! ### Encoding -/

/-- Decoding the byte of a well-formed instruction gives it back, with every operand, and consumes that one
byte (R101 to R110). The premise about `n` is the table's condition column. -/
def Obligations.DecodeOfEncodeGivesTheInstruction : Prop :=
  ∀ (c : Chip) (n : Nat) (i : Instr) (rest : List Byte),
    i.wf c = true → (i.isGlyphData = true ↔ 0 < n) →
      decode c n (encode c i :: rest) = .ok (i, rest)

/-- Every byte, in every state of the glyph loader, decodes to a well-formed instruction whose condition
holds, and that instruction's encoding is the byte (R107: every value has a meaning). An F_CTRL2 form keeps its
unused bits as an operand, the model's choice (log 7). -/
def Obligations.EveryByteDecodesAndEncodesBack : Prop :=
  ∀ (c : Chip) (n : Nat) (b : Byte),
    (decodeByte c n b).wf c = true
      ∧ ((decodeByte c n b).isGlyphData = true ↔ 0 < n)
      ∧ encode c (decodeByte c n b) = b

/-- The full map of R107: while a load is pending every byte is UGDATA; otherwise one row after the other,
the in-band codes in the order of R201. That an F_CTRL2 form carries the unused bits `b[3:2]`, for which its
row of R107 names no field, is the model's choice (log 7). -/
def Obligations.DecoderIsTheOpcodeMap : Prop :=
  ∀ (c : Chip) (b : Byte),
    (∀ n, 0 < n → decodeByte c n b = .ugdata b)
    ∧ (b = 0#2 ++ c.flashMarkCode → decodeByte c 0 b = .fmark)
    ∧ (b = 0#2 ++ c.undefinedCode → c.undefinedCode ≠ c.flashMarkCode → decodeByte c 0 b = .undef)
    ∧ (b = 0#2 ++ c.dpCode → c.dpCode ∉ [c.flashMarkCode, c.undefinedCode] → decodeByte c 0 b = .dpt)
    ∧ (b = 0#2 ++ c.semiCode → c.semiCode ∉ [c.flashMarkCode, c.undefinedCode, c.dpCode] →
        decodeByte c 0 b = .semi)
    ∧ (b = 0#2 ++ c.glyphTriggerCode →
        c.glyphTriggerCode ∉ [c.flashMarkCode, c.undefinedCode, c.dpCode, c.semiCode] →
        decodeByte c 0 b = .ugtrig)
    ∧ (b = 0#2 ++ c.dummyCode →
        c.dummyCode ∉ [c.flashMarkCode, c.undefinedCode, c.dpCode, c.semiCode, c.glyphTriggerCode] →
        decodeByte c 0 b = .dummy)
    ∧ (b &&& 0xC0#8 = 0x00#8 →
        b.extractLsb' 0 6 ∉ [c.flashMarkCode, c.undefinedCode, c.dpCode, c.semiCode, c.glyphTriggerCode,
          c.dummyCode] →
        decodeByte c 0 b = .chr (b.extractLsb' 0 6))
    ∧ (b &&& 0xC0#8 = 0x40#8 → decodeByte c 0 b = .chrx (b.extractLsb' 0 6))
    ∧ (b &&& 0xF3#8 = 0x80#8 → decodeByte c 0 b = .blnkAll (b.extractLsb' 2 2))
    ∧ (b &&& 0xF3#8 = 0x81#8 → decodeByte c 0 b = .blnkWin (b.extractLsb' 2 2))
    ∧ (b &&& 0xF3#8 = 0x82#8 → decodeByte c 0 b = .blnkOut (b.extractLsb' 2 2))
    ∧ (b &&& 0xF3#8 = 0x83#8 → decodeByte c 0 b = .blnkOff (b.extractLsb' 2 2))
    ∧ (b &&& 0xF0#8 = 0x90#8 → decodeByte c 0 b = .setcur (b.extractLsb' 0 4))
    ∧ (b &&& 0xF3#8 = 0xA0#8 → decodeByte c 0 b = .modeRl (b.extractLsb' 2 2))
    ∧ (b &&& 0xF3#8 = 0xA1#8 → decodeByte c 0 b = .modeRr (b.extractLsb' 2 2))
    ∧ (b &&& 0xF3#8 = 0xA2#8 → decodeByte c 0 b = .modeSl (b.extractLsb' 2 2))
    ∧ (b &&& 0xF3#8 = 0xA3#8 → decodeByte c 0 b = .modeSr (b.extractLsb' 2 2))
    ∧ (b &&& 0xF3#8 = 0xB0#8 → decodeByte c 0 b = .clrNop (b.extractLsb' 2 2))
    ∧ (b &&& 0xF3#8 = 0xB1#8 → decodeByte c 0 b = .clrWin (b.extractLsb' 2 2))
    ∧ (b &&& 0xF3#8 = 0xB2#8 → decodeByte c 0 b = .clrOut (b.extractLsb' 2 2))
    ∧ (b &&& 0xF3#8 = 0xB3#8 → decodeByte c 0 b = .clrAll (b.extractLsb' 2 2))
    ∧ (b &&& 0xF0#8 = 0xC0#8 → decodeByte c 0 b = .frate (b.extractLsb' 0 4))
    ∧ (b &&& 0xF3#8 = 0xD0#8 → decodeByte c 0 b = .fctlNone (b.extractLsb' 2 2))
    ∧ (b &&& 0xF3#8 = 0xD1#8 → decodeByte c 0 b = .fctlIn (b.extractLsb' 2 2))
    ∧ (b &&& 0xF3#8 = 0xD2#8 → decodeByte c 0 b = .fctlOut (b.extractLsb' 2 2))
    ∧ (b &&& 0xF3#8 = 0xD3#8 → decodeByte c 0 b = .fctlAll (b.extractLsb' 2 2))
    ∧ (b &&& 0xF0#8 = 0xE0#8 → decodeByte c 0 b = .wstart (b.extractLsb' 0 4))
    ∧ (b &&& 0xF0#8 = 0xF0#8 → decodeByte c 0 b = .wend (b.extractLsb' 0 4))

/-- A few bytes of the spec's own examples decode to the forms it names (R107, R151, R153, R156 to R168). -/
def Obligations.SpecExampleBytesDecode : Prop :=
  ∀ c : Chip,
    decodeByte c 2 0xAB#8 = .ugdata 0xAB#8
    ∧ decodeByte c 0 0x41#8 = .chrx 0x01#6
    ∧ decodeByte c 0 0x84#8 = .blnkAll 1#2
    ∧ decodeByte c 0 0x97#8 = .setcur 7#4
    ∧ decodeByte c 0 0xA4#8 = .modeRl 1#2
    ∧ decodeByte c 0 0xA3#8 = .modeSr 0#2
    ∧ decodeByte c 0 0xB3#8 = .clrAll 0#2
    ∧ decodeByte c 0 0xC3#8 = .frate 3#4
    ∧ decodeByte c 0 0xDF#8 = .fctlAll 3#2
    ∧ decodeByte c 0 0xE3#8 = .wstart 3#4
    ∧ decodeByte c 0 0xF5#8 = .wend 5#4

/-! ### The step -/

/-- A step whose next event is a byte runs the instruction the byte decodes to, with the event taken off
the list; and the byte `withFetchWord` puts first is that next event (R150; log 2). -/
def Obligations.StepRunsTheDecodedInstruction : Prop :=
  (∀ (s : State) (b : Byte) (rest : List Event) (i : Instr) (tail : List Byte),
    s.inputs = .submit b :: rest →
    decode s.chip s.ugRemaining [b] = .ok (i, tail) →
      step s = exec i { s with inputs := rest })
  ∧ (∀ (s : State) (w : Nat) (i : Instr),
    decode s.chip s.ugRemaining [BitVec.ofNat 8 w] = .ok (i, []) →
      step (s.withFetchWord 8 w) = exec i s)

/-- With no event to come the block waits, unchanged (R8, R353). The list of events is the model's own field
(log 1). -/
def Obligations.BlockWaitsForTheNextEvent : Prop :=
  ∀ s : State, s.inputs = [] → step s = .next s

/-- Every event the spec gives an effect, in every state, ends in a next state: no fault, no refusal (R322).
The premise leaves out a restore out of range, which the spec has a model refuse (D32). -/
def Obligations.EveryEventGoesOn : Prop :=
  ∀ s : State, (∀ e rest, s.inputs = e :: rest → e.total) → goesOn (step s)

/-- Decoding a byte and executing its form is the pseudocode of `submit`, loops and byte arithmetic
included: dispatch, write path, cursor engine, blank, clear, flash and mode commands (R150, R200, R211 to
R216, R270, R276). -/
def Obligations.SubmitRefinesThePseudocode : Prop :=
  ∀ (s : State) (b : Byte), submit b s = .next (Pseudo.submit b s)

/-! ### The serial receiver -/

/-- `clock(level)`: a call that samples nothing stores the level and refreshes; a sampled bit is shifted in,
1 for a low data line; the eighth submits the byte, then clears the receiver, stores the level and
refreshes (R130 to R135). -/
def Obligations.ClockReceivesBitsAndSubmitsBytes : Prop :=
  ∀ (s : State) (level : Bool) (rest : List Event),
    s.inputs = .clock level :: rest →
      let acc : Byte := (s.srAcc <<< 1) ||| (if s.dataLevel = s.chip.low then 1#8 else 0#8)
      let samples : Prop := level ≠ s.clkLevel ∧ s.clkLevel = s.chip.low
      (¬ samples → step s = .next (refresh { s with inputs := rest, clkLevel := level }))
      ∧ (samples → s.srCount + 1 ≠ 8 →
          step s = .next (refresh
            { s with inputs := rest, srAcc := acc, srCount := s.srCount + 1, clkLevel := level }))
      ∧ (samples → s.srCount + 1 = 8 →
          ∃ u, submit acc { s with inputs := rest, srAcc := acc, srCount := 8 } = .next u
            ∧ step s = .next (refresh { u with srCount := 0, srAcc := 0#8, clkLevel := level }))

/-- `data(level)` stores the level and does nothing else: no sample, no refresh (R136). -/
def Obligations.DataStoresTheLevelOnly : Prop :=
  ∀ (s : State) (level : Bool) (rest : List Event),
    s.inputs = .data level :: rest → step s = .next { s with inputs := rest, dataLevel := level }

/-- The 24 pin events of `SEND b`, from a byte boundary with the clock low, submit exactly that byte, once,
and run 17 refreshes: 14 before it, its own, and two after; the receiver is again at a byte boundary, the
clock low, and the data line at `not b[0]` (at the low level for a 1) (R138). -/
def Obligations.SendDeliversTheByte : Prop :=
  ∀ (s : State) (b : Byte) (rest : List Event),
    s.inputs = sendByte s.chip.low b ++ rest → s.srCount = 0 → s.clkLevel = s.chip.low →
      let last : Bool := if b[0] then s.chip.low else !s.chip.low
      ∃ u, submit b (Nat.iterate refresh 14
              { s with inputs := rest, dataLevel := last, srAcc := b, srCount := 8 }) = .next u
        ∧ Host.Core.run Sys2Proof.core 24 s
            = .next (refresh (refresh { u with srCount := 0, srAcc := 0#8, clkLevel := s.chip.low }))

/-! ### Reset, tick, restore -/

/-- The state after reset, field by field (R53). The parameters, the diagnostic stream and the list of
events are not in that table (log 1, log 3, log 8). -/
def Obligations.ResetStateIsTheTable : Prop :=
  (∀ i : CellIx, State.reset.pat i = 0x0000#16 ∧ State.reset.attr i = .normal ∧ State.reset.sink i = 0x0000#16)
  ∧ State.reset.cursorPos = 0#4 ∧ State.reset.pcursorPos = 0#4
  ∧ State.reset.winStart = 0#4 ∧ State.reset.winEnd = 0#4 ∧ State.reset.winSize = 1
  ∧ State.reset.winValid = true
  ∧ State.reset.mode = .rotateLeft ∧ State.reset.scrollActive = false
  ∧ State.reset.flashRate = 0#4 ∧ State.reset.flashControl = .none
  ∧ State.reset.flashTimer = 0 ∧ State.reset.flashing = false
  ∧ State.reset.ugRemaining = 0 ∧ State.reset.ugAcc = 0x0000#16
  ∧ State.reset.srCount = 0 ∧ State.reset.srAcc = 0x00#8
  ∧ State.reset.clkLevel = false ∧ State.reset.dataLevel = false

/-- `reset(false)`, from any state, gives every field of the block its value after reset, at once and with no
refresh; `reset(true)` changes nothing (R350, R351). What is not the block's state stays: the parameters,
the diagnostic stream (D24) and the events to come. -/
def Obligations.ResetEventReinitializes : Prop :=
  ∀ (s : State) (rest : List Event),
    (s.inputs = .reset true :: rest → step s = .next { s with inputs := rest })
    ∧ (s.inputs = .reset false :: rest →
        step s = .next { State.reset with chip := s.chip, diags := s.diags, inputs := rest })

/-- `tick()` is one refresh (R254). -/
def Obligations.TickRefreshesOnce : Prop :=
  ∀ (s : State) (rest : List Event),
    s.inputs = .tick :: rest → step s = .next (refresh { s with inputs := rest })

/-- A restore in range gives the fields of the image, keeps the line levels, and runs a render but no flash
step; one out of range is refused; and restoring what was saved from an in-range state renders that
state (R346; D19, D32). That the line levels are in no image is the model's reading (log 9). -/
def Obligations.RestoreLoadsAndRenders : Prop :=
  (∀ (s : State) (m : Image) (rest : List Event),
    s.inputs = .restore m :: rest →
      (m.inRange = true → ∃ t, step s = .next t
        ∧ (∀ i, t.cell i = m.cells.get i) ∧ t.cursorPos.toNat = m.cursorPos
        ∧ t.pcursorPos.toNat = m.pcursorPos ∧ t.winStart.toNat = m.winStart ∧ t.winEnd.toNat = m.winEnd
        ∧ t.winSize = (m.winEnd : Int) - (m.winStart : Int) + 1
        ∧ t.mode = m.mode ∧ t.scrollActive = m.scrollActive ∧ t.flashRate.toNat = m.flashRate
        ∧ t.flashControl = m.flashControl ∧ t.flashTimer = m.flashTimer ∧ t.flashing = m.flashing
        ∧ t.ugRemaining = m.ugRemaining ∧ t.ugAcc = m.ugAcc ∧ t.srCount = m.srCount ∧ t.srAcc = m.srAcc
        ∧ t.clkLevel = s.clkLevel ∧ t.dataLevel = s.dataLevel ∧ t.inputs = rest
        ∧ t.chip = s.chip ∧ t.diags = s.diags
        ∧ ∀ i, t.sink i = if t.attr i = .normal then remap s.chip (t.pat i) else 0#16)
      ∧ (m.inRange = false → step s = .refused .restoreOutOfRange))
  ∧ (∀ (s : State) (rest : List Event),
      s.inRange → s.inputs = .restore s.save :: rest → step s = .next (render { s with inputs := rest }))

/-! ### Flash controller, render, remapper -/

/-- The flash step: idle while the timer is stopped (R241); else it counts down (R242), and at 0 runs the
first phase (R243 to R247) or the second (R248, R249), with every attribute and field each one writes. -/
def Obligations.FlashStepFollowsItsPhases : Prop :=
  ∀ s : State,
    (s.flashTimer = 0 → flashStep s = s)
    ∧ (2 ≤ s.flashTimer → flashStep s = { s with flashTimer := s.flashTimer - 1 })
    ∧ (s.flashTimer = 1 → s.flashing = false →
        ∃ t, flashStep s = t ∧ t = { s with cells := t.cells, flashTimer := 20, flashing := true }
          ∧ ∀ i : CellIx, t.pat i = s.pat i
            ∧ (s.flashControl = .insideWindow →
                t.attr i = if s.winStart.toNat ≤ i.val ∧ i.val ≤ s.winEnd.toNat then .flash else .normal)
            ∧ (s.flashControl = .outsideWindow →
                t.attr i = if s.winStart.toNat ≤ i.val ∧ i.val ≤ s.winEnd.toNat then .normal else .flash)
            ∧ (s.flashControl = .all → t.attr i = .flash)
            ∧ (s.flashControl = .none → t.attr i = s.attr i))
    ∧ (s.flashTimer = 1 → s.flashing = true → s.flashRate ≠ 1#4 →
        flashStep s = { s with flashRate := s.flashRate - 1#4, flashTimer := s.chip.flashBReload })
    ∧ (s.flashTimer = 1 → s.flashing = true → s.flashRate = 1#4 →
        ∃ t, flashStep s = t
          ∧ t = { s with
                  cells := t.cells, flashRate := 0#4, flashTimer := 0
                  flashing := if s.flashControl = .none then true else false }
          ∧ ∀ i : CellIx, t.pat i = s.pat i ∧ t.attr i = .normal)

/-- The timeline of a flash (R255): after FRATE `n`, `n` in 1..15, with `flashing` clear, the timer stands at
19; the first phase runs at refresh 19; with a second-phase reload of 20 the rate counts down every 20
refreshes and the flash ends at refresh `19 + 20 n`; with a reload of 0 the timer stops at refresh 39
with rate `n - 1`, unless `n = 1`. -/
def Obligations.FlashTimeline : Prop :=
  ∀ (s : State) (n : Nibble), n ≠ 0#4 → s.flashing = false →
    ∃ t, exec (.frate n) s = .next t ∧ t.flashTimer = 19
      ∧ (∀ k, k < 19 → (Nat.iterate refresh k t).flashTimer = 19 - k
          ∧ (Nat.iterate refresh k t).flashing = false
          ∧ ∀ i, (Nat.iterate refresh k t).attr i = s.attr i)
      ∧ (Nat.iterate refresh 19 t).flashing = true ∧ (Nat.iterate refresh 19 t).flashTimer = 20
      ∧ (∀ i, (Nat.iterate refresh 19 t).attr i = firstPhaseAttr s i)
      ∧ (s.chip.flashBReload = 20 →
          (∀ j, j < n.toNat →
            (Nat.iterate refresh (19 + 20 * j) t).flashTimer = 20
            ∧ (Nat.iterate refresh (19 + 20 * j) t).flashRate.toNat = n.toNat - j
            ∧ (Nat.iterate refresh (19 + 20 * j) t).flashing = true
            ∧ ∀ i, (Nat.iterate refresh (19 + 20 * j) t).attr i = firstPhaseAttr s i)
          ∧ (Nat.iterate refresh (19 + 20 * n.toNat) t).flashTimer = 0
          ∧ (Nat.iterate refresh (19 + 20 * n.toNat) t).flashRate = 0#4
          ∧ (∀ i, (Nat.iterate refresh (19 + 20 * n.toNat) t).attr i = .normal)
          ∧ (Nat.iterate refresh (19 + 20 * n.toNat) t).flashing
              = (if s.flashControl = .none then true else false))
      ∧ (s.chip.flashBReload = 0 → n ≠ 1#4 → ∀ k, 39 ≤ k →
          (Nat.iterate refresh k t).flashTimer = 0
          ∧ (Nat.iterate refresh k t).flashRate.toNat = n.toNat - 1
          ∧ (Nat.iterate refresh k t).flashing = true
          ∧ ∀ i, (Nat.iterate refresh k t).attr i = firstPhaseAttr s i)

/-- A refresh writes only the attributes, `flash_rate`, `flash_timer`, `flashing` and the sinks; every pattern
and every other field is as it was, and unless the timer is about to expire the attributes are too. -/
def Obligations.RefreshFrame : Prop :=
  ∀ s : State,
    refresh s = { s with
        cells := (refresh s).cells, flashRate := (refresh s).flashRate
        flashTimer := (refresh s).flashTimer, flashing := (refresh s).flashing
        out := (refresh s).out }
    ∧ (∀ i, (refresh s).pat i = s.pat i)
    ∧ (s.flashTimer ≠ 1 → (∀ i, (refresh s).attr i = s.attr i) ∧ (refresh s).flashRate = s.flashRate
        ∧ (refresh s).flashing = s.flashing ∧ (refresh s).flashTimer = s.flashTimer - 1)

/-- A render sends every sink the remapped pattern of a Normal cell and 0 for a Flash or Blank one, and
changes nothing else (R250, R251); a refresh is the flash step, then the render (R252). -/
def Obligations.RenderShowsNormalCellsOnly : Prop :=
  ∀ s : State,
    (∀ i, (render s).sink i = if s.attr i = .normal then remap s.chip (s.pat i) else 0x0000#16)
    ∧ render s = { s with out := (render s).out }
    ∧ refresh s = render (flashStep s)

/-- REMAP moves logical bit `j` to physical bit PERM(j), for every bijection PERM (R303). -/
def Obligations.RemapMovesEachBit : Prop :=
  ∀ (c : Chip) (p : Word) (j : CellIx), c.permBijective →
    (remap c p).getLsbD (c.perm.get j).val = p.getLsbD j.val

/-- The consequences of PERM being a bijection (R305): 0 to 0, injective, or to or, as many bits set; and a
cell's rendered sink is 0 exactly when the cell is not Normal or its pattern is 0. -/
def Obligations.RemapPermutesBits : Prop :=
  ∀ c : Chip, c.permBijective →
    remap c 0#16 = 0#16
    ∧ (∀ a b : Word, remap c a = remap c b → a = b)
    ∧ (∀ a b : Word, remap c (a ||| b) = remap c a ||| remap c b)
    ∧ (∀ a : Word, (bitPositions.filter (bitAt (remap c a))).length = (bitPositions.filter (bitAt a)).length)
    ∧ (∀ (s : State) (i : CellIx), s.chip = c →
        ((render s).sink i = 0#16 ↔ s.attr i ≠ .normal ∨ s.pat i = 0#16))

/-! ### Window -/

/-- `win_size` is `win_end - win_start + 1` on integers, in -14..16, and the window is valid exactly when it is
in 1..16, which is when the start is not beyond the end (R37, R38). -/
def Obligations.WindowIsValidWhenOrdered : Prop :=
  ∀ s : State,
    s.winSize = (s.winEnd.toNat : Int) - (s.winStart.toNat : Int) + 1
    ∧ -14 ≤ s.winSize ∧ s.winSize ≤ 16
    ∧ (s.winValid = true ↔ 0 < s.winSize ∧ s.winSize ≤ 16)
    ∧ (s.winValid = true ↔ s.winStart.toNat ≤ s.winEnd.toNat)

/-! ### Control commands -/

/-- SETCUR `n` (R156). -/
def Obligations.SetcurPlacesTheCursor : Prop :=
  (∀ (c : Chip) (b : Byte), b &&& 0xF0#8 = 0x90#8 → decodeByte c 0 b = .setcur (b.extractLsb' 0 4))
  ∧ ∀ (s : State) (n : Nibble),
      exec (.setcur n) s = .next (refresh
        { s with cursorPos := n, scrollActive := decide (s.mode = .scrollLeft ∧ s.winEnd ≤ n) })

/-- The four MODE commands set the mode and nothing else (R157 to R160). -/
def Obligations.ModeCommandsSetTheMode : Prop :=
  (∀ (c : Chip) (b : Byte),
    (b &&& 0xF3#8 = 0xA0#8 → decodeByte c 0 b = .modeRl (b.extractLsb' 2 2))
    ∧ (b &&& 0xF3#8 = 0xA1#8 → decodeByte c 0 b = .modeRr (b.extractLsb' 2 2))
    ∧ (b &&& 0xF3#8 = 0xA2#8 → decodeByte c 0 b = .modeSl (b.extractLsb' 2 2))
    ∧ (b &&& 0xF3#8 = 0xA3#8 → decodeByte c 0 b = .modeSr (b.extractLsb' 2 2)))
  ∧ ∀ (s : State) (x : Unused),
      exec (.modeRl x) s = .next (refresh { s with mode := .rotateLeft })
      ∧ exec (.modeRr x) s = .next (refresh { s with mode := .rotateRight })
      ∧ exec (.modeSl x) s = .next (refresh { s with mode := .scrollLeft })
      ∧ exec (.modeSr x) s = .next (refresh { s with mode := .scrollRight })

/-- FRATE `n` sets the rate, clears `flashing` when `n = 0`, and loads the timer with 20 whatever `n` is, which
the byte's own refresh counts to 19; attributes and patterns stay (R162). -/
def Obligations.FrateSetsRateAndTimer : Prop :=
  (∀ (c : Chip) (b : Byte), b &&& 0xF0#8 = 0xC0#8 → decodeByte c 0 b = .frate (b.extractLsb' 0 4))
  ∧ ∀ (s : State) (n : Nibble),
      exec (.frate n) s = .next (refresh
        { s with flashRate := n, flashTimer := 20, flashing := if n = 0#4 then false else s.flashing })
      ∧ ∃ t, exec (.frate n) s = .next t ∧ t.flashTimer = 19 ∧ t.flashRate = n
        ∧ (∀ i, t.cell i = s.cell i) ∧ t.flashing = (if n = 0#4 then false else s.flashing)

/-- FCTL.NONE sets the control and clears `flashing`; timer and attributes are not its to change (R163). -/
def Obligations.FctlNoneStopsFlashing : Prop :=
  (∀ (c : Chip) (b : Byte), b &&& 0xF3#8 = 0xD0#8 → decodeByte c 0 b = .fctlNone (b.extractLsb' 2 2))
  ∧ ∀ (s : State) (x : Unused),
      exec (.fctlNone x) s = .next (refresh { s with flashControl := .none, flashing := false })

/-- FCTL.IN, FCTL.OUT and FCTL.ALL set the control and nothing else (R164 to R166). -/
def Obligations.FctlSetsTheControl : Prop :=
  (∀ (c : Chip) (b : Byte),
    (b &&& 0xF3#8 = 0xD1#8 → decodeByte c 0 b = .fctlIn (b.extractLsb' 2 2))
    ∧ (b &&& 0xF3#8 = 0xD2#8 → decodeByte c 0 b = .fctlOut (b.extractLsb' 2 2))
    ∧ (b &&& 0xF3#8 = 0xD3#8 → decodeByte c 0 b = .fctlAll (b.extractLsb' 2 2)))
  ∧ ∀ (s : State) (x : Unused),
      exec (.fctlIn x) s = .next (refresh { s with flashControl := .insideWindow })
      ∧ exec (.fctlOut x) s = .next (refresh { s with flashControl := .outsideWindow })
      ∧ exec (.fctlAll x) s = .next (refresh { s with flashControl := .all })

/-- WSTART `n` sets the window's start; the size follows; flag and cursor stay (R167). -/
def Obligations.WstartMovesTheWindowStart : Prop :=
  (∀ (c : Chip) (b : Byte), b &&& 0xF0#8 = 0xE0#8 → decodeByte c 0 b = .wstart (b.extractLsb' 0 4))
  ∧ ∀ (s : State) (n : Nibble),
      exec (.wstart n) s = .next (refresh { s with winStart := n })
      ∧ ∃ t, exec (.wstart n) s = .next t ∧ t.winStart = n
        ∧ t.winSize = (s.winEnd.toNat : Int) - (n.toNat : Int) + 1
        ∧ (s.winEnd < n → t.winValid = false)
        ∧ t.scrollActive = s.scrollActive ∧ t.cursorPos = s.cursorPos

/-- WEND `n` sets the window's end; in ScrollLeft mode, and in no other, a cursor at or beyond it is clamped to
it and sets `scroll_active`, which is else cleared; no validity check (R168). -/
def Obligations.WendMovesTheWindowEndAndClamps : Prop :=
  (∀ (c : Chip) (b : Byte), b &&& 0xF0#8 = 0xF0#8 → decodeByte c 0 b = .wend (b.extractLsb' 0 4))
  ∧ ∀ (s : State) (n : Nibble),
      (s.mode = .scrollLeft ∧ n ≤ s.cursorPos →
        exec (.wend n) s = .next (refresh { s with winEnd := n, scrollActive := true, cursorPos := n }))
      ∧ (¬ (s.mode = .scrollLeft ∧ n ≤ s.cursorPos) →
        exec (.wend n) s = .next (refresh { s with winEnd := n, scrollActive := false }))

/-! ### Blank and clear -/

/-- BLNK.ALL makes cells 0..14 Blank and BLNK.OFF makes them Normal; both keep cell 15. The byte 0x84, and no
other of its form, emits the duty-control notice first (R271, R274, R275). -/
def Obligations.BlankAllAndOffKeepCellFifteen : Prop :=
  (∀ (c : Chip) (b : Byte),
    (b &&& 0xF3#8 = 0x80#8 → decodeByte c 0 b = .blnkAll (b.extractLsb' 2 2))
    ∧ (b &&& 0xF3#8 = 0x83#8 → decodeByte c 0 b = .blnkOff (b.extractLsb' 2 2)))
  ∧ ∀ (s : State) (x : Unused),
      (∃ u, exec (.blnkAll x) s = .next (refresh u)
        ∧ u = { s with
                cells := u.cells
                diags := if encode s.chip (.blnkAll x) = 0x84#8 then s.diags ++ [.dutyControl 0x84#8]
                         else s.diags }
        ∧ ∀ i : CellIx, u.pat i = s.pat i ∧ u.attr i = if i.val ≤ 14 then .blank else s.attr i)
      ∧ (∃ u, exec (.blnkOff x) s = .next (refresh u) ∧ u = { s with cells := u.cells }
        ∧ ∀ i : CellIx, u.pat i = s.pat i ∧ u.attr i = if i.val ≤ 14 then .normal else s.attr i)

/-- BLNK.WIN: with a valid window the cells from its start up to but not including its end; with an invalid one
nothing (R272). -/
def Obligations.BlankWindowIsEndExclusive : Prop :=
  (∀ (c : Chip) (b : Byte), b &&& 0xF3#8 = 0x81#8 → decodeByte c 0 b = .blnkWin (b.extractLsb' 2 2))
  ∧ ∀ (s : State) (x : Unused),
      ∃ u, exec (.blnkWin x) s = .next (refresh u) ∧ u = { s with cells := u.cells }
        ∧ ∀ i : CellIx, u.pat i = s.pat i
          ∧ u.attr i = if s.winValid = true ∧ s.winStart.toNat ≤ i.val ∧ i.val < s.winEnd.toNat then .blank
                       else s.attr i

/-- BLNK.OUT: with a valid window the cells before its start and, if its end is below 15, the literal range from
the end up to but not including `15 - end`; with an invalid one nothing (R273). -/
def Obligations.BlankOutsideUsesTheLiteralRange : Prop :=
  (∀ (c : Chip) (b : Byte), b &&& 0xF3#8 = 0x82#8 → decodeByte c 0 b = .blnkOut (b.extractLsb' 2 2))
  ∧ ∀ (s : State) (x : Unused),
      ∃ u, exec (.blnkOut x) s = .next (refresh u) ∧ u = { s with cells := u.cells }
        ∧ ∀ i : CellIx, u.pat i = s.pat i
          ∧ u.attr i = if s.winValid = true ∧ (i.val < s.winStart.toNat
                          ∨ (s.winEnd.toNat < 15 ∧ s.winEnd.toNat ≤ i.val ∧ i.val < 15 - s.winEnd.toNat))
                       then .blank else s.attr i

/-- CLR.NOP changes nothing but what its refresh does; CLR.WIN zeroes the cells of a valid window, its end
included; CLR.OUT those of the literal outside range; with an invalid window neither does anything; CLR.ALL
zeroes all 16 cells (R277 to R280). -/
def Obligations.ClearCommandsZeroTheirCells : Prop :=
  (∀ (c : Chip) (b : Byte),
    (b &&& 0xF3#8 = 0xB0#8 → decodeByte c 0 b = .clrNop (b.extractLsb' 2 2))
    ∧ (b &&& 0xF3#8 = 0xB1#8 → decodeByte c 0 b = .clrWin (b.extractLsb' 2 2))
    ∧ (b &&& 0xF3#8 = 0xB2#8 → decodeByte c 0 b = .clrOut (b.extractLsb' 2 2))
    ∧ (b &&& 0xF3#8 = 0xB3#8 → decodeByte c 0 b = .clrAll (b.extractLsb' 2 2)))
  ∧ ∀ (s : State) (x : Unused),
      exec (.clrNop x) s = .next (refresh s)
      ∧ (∃ u, exec (.clrWin x) s = .next (refresh u) ∧ u = { s with cells := u.cells }
        ∧ ∀ i : CellIx, u.cell i =
            if s.winValid = true ∧ s.winStart.toNat ≤ i.val ∧ i.val ≤ s.winEnd.toNat
            then { pattern := 0#16, attr := .normal } else s.cell i)
      ∧ (∃ u, exec (.clrOut x) s = .next (refresh u) ∧ u = { s with cells := u.cells }
        ∧ ∀ i : CellIx, u.cell i =
            if s.winValid = true ∧ (i.val < s.winStart.toNat
                ∨ (s.winEnd.toNat < 15 ∧ s.winEnd.toNat ≤ i.val ∧ i.val < 15 - s.winEnd.toNat))
            then { pattern := 0#16, attr := .normal } else s.cell i)
      ∧ (∃ u, exec (.clrAll x) s = .next (refresh u) ∧ u = { s with cells := u.cells }
        ∧ ∀ i : CellIx, u.cell i = { pattern := 0#16, attr := .normal })

/-! ### Characters, in-band codes, glyph bytes -/

/-- The notice of a character byte: a byte above 0x3F, or one whose index is a placeholder, appends one
OutOfRangeChar with the byte; any other appends nothing (R150, R302, R321). -/
def Obligations.CharacterNoticeIsOutOfRange : Prop :=
  ∀ (s : State) (b : Byte),
    (0x3F#8 < b ∨ s.chip.placeholder.get (charIx (b.extractLsb' 0 6)) = true →
      noteCharacter b s = { s with diags := s.diags ++ [.outOfRangeChar b] })
    ∧ (b ≤ 0x3F#8 → s.chip.placeholder.get (charIx (b.extractLsb' 0 6)) = false → noteCharacter b s = s)

/-- FMARK: an unmarked last-written cell gets the mark bit and the Flash attribute and nothing else changes; a
marked one makes it a move that writes no character (R202). -/
def Obligations.FmarkMarksOrMoves : Prop :=
  ∀ s : State,
    let p := cellIx s.pcursorPos
    let seg := s.chip.charset.get (charIx s.chip.flashMarkCode)
    let noted := noteCharacter (0#2 ++ s.chip.flashMarkCode) s
    decodeByte s.chip 0 (0#2 ++ s.chip.flashMarkCode) = .fmark
    ∧ ((s.pat p).getLsbD s.chip.flashMarkBit.val = true →
        exec .fmark s = .next (refresh (move seg false noted)))
    ∧ ((s.pat p).getLsbD s.chip.flashMarkBit.val = false →
        ∃ u, exec .fmark s = .next (refresh u) ∧ u = { noted with cells := u.cells }
          ∧ u.pat p = s.pat p ||| (1#16 <<< s.chip.flashMarkBit.val) ∧ u.attr p = .flash
          ∧ ∀ i, i ≠ p → u.cell i = s.cell i)

/-- UNDEF moves nothing and overlays nothing: only the byte's notice, if its index is a placeholder, and its
refresh (R203). -/
def Obligations.UndefOnlyRefreshes : Prop :=
  ∀ s : State,
    (s.chip.undefinedCode ≠ s.chip.flashMarkCode →
      decodeByte s.chip 0 (0#2 ++ s.chip.undefinedCode) = .undef)
    ∧ exec .undef s = .next (refresh { s with
        diags := if s.chip.placeholder.get (charIx s.chip.undefinedCode) = true
                 then s.diags ++ [.outOfRangeChar (0#2 ++ s.chip.undefinedCode)] else s.diags })

/-- DPT and SEMI: a last-written cell without the point gets it, its attribute kept; one with it makes the byte a
move that writes no character (R204, R205). -/
def Obligations.DptAndSemiPointOrMove : Prop :=
  ∀ s : State,
    let p := cellIx s.pcursorPos
    ((s.chip.dpCode ∉ [s.chip.flashMarkCode, s.chip.undefinedCode] →
        decodeByte s.chip 0 (0#2 ++ s.chip.dpCode) = .dpt)
      ∧ (s.chip.semiCode ∉ [s.chip.flashMarkCode, s.chip.undefinedCode, s.chip.dpCode] →
        decodeByte s.chip 0 (0#2 ++ s.chip.semiCode) = .semi))
    ∧ ((s.pat p).getLsbD s.chip.dpBit.val = true →
        exec .dpt s = .next (refresh (move (s.chip.charset.get (charIx s.chip.dpCode)) false
          (noteCharacter (0#2 ++ s.chip.dpCode) s)))
        ∧ exec .semi s = .next (refresh (move (s.chip.charset.get (charIx s.chip.semiCode)) false
          (noteCharacter (0#2 ++ s.chip.semiCode) s))))
    ∧ ((s.pat p).getLsbD s.chip.dpBit.val = false →
        exec .dpt s = .next (refresh ((noteCharacter (0#2 ++ s.chip.dpCode) s).setPat p
          (s.pat p ||| (1#16 <<< s.chip.dpBit.val))))
        ∧ exec .semi s = .next (refresh ((noteCharacter (0#2 ++ s.chip.semiCode) s).setPat p
          (s.pat p ||| (1#16 <<< s.chip.dpBit.val)))))

/-- UGTRIG starts a load of two bytes and writes nothing else, not even the accumulator (R206); DUMMY is a move
that writes no character (R207). -/
def Obligations.UgtrigLoadsAndDummyMoves : Prop :=
  ∀ s : State,
    (s.chip.glyphTriggerCode ∉ [s.chip.flashMarkCode, s.chip.undefinedCode, s.chip.dpCode, s.chip.semiCode] →
      decodeByte s.chip 0 (0#2 ++ s.chip.glyphTriggerCode) = .ugtrig)
    ∧ (s.chip.dummyCode ∉ [s.chip.flashMarkCode, s.chip.undefinedCode, s.chip.dpCode, s.chip.semiCode,
        s.chip.glyphTriggerCode] → decodeByte s.chip 0 (0#2 ++ s.chip.dummyCode) = .dummy)
    ∧ exec .ugtrig s = .next (refresh
        { noteCharacter (0#2 ++ s.chip.glyphTriggerCode) s with ugRemaining := 2 })
    ∧ exec .dummy s = .next (refresh (move (s.chip.charset.get (charIx s.chip.dummyCode)) false
        (noteCharacter (0#2 ++ s.chip.dummyCode) s)))

/-- CHR and CHRX write the entry at their index through a move; CHRX always emits the out-of-range notice, CHR
only for a placeholder index, one notice at most (R153, R208, R302, R321). -/
def Obligations.CharactersWriteTheirEntry : Prop :=
  (∀ (c : Chip) (k : CharIx),
    decodeByte c 0 (0b01#2 ++ k) = .chrx k
    ∧ (k ∉ [c.flashMarkCode, c.undefinedCode, c.dpCode, c.semiCode, c.glyphTriggerCode, c.dummyCode] →
      decodeByte c 0 (0b00#2 ++ k) = .chr k))
  ∧ ∀ (s : State) (k : CharIx),
      let entry := s.chip.charset.get (charIx k)
      exec (.chrx k) s = .next (refresh (move entry true
        { s with diags := s.diags ++ [.outOfRangeChar (0b01#2 ++ k)] }))
      ∧ (s.chip.placeholder.get (charIx k) = true →
        exec (.chr k) s = .next (refresh (move entry true
          { s with diags := s.diags ++ [.outOfRangeChar (0b00#2 ++ k)] })))
      ∧ (s.chip.placeholder.get (charIx k) = false →
        exec (.chr k) s = .next (refresh (move entry true s)))

/-- UGDATA: the count goes down and the byte is shifted in; a byte that leaves the count above 0 does no more;
the one that brings it to 0 runs the write path with the accumulator as pattern and itself as opcode; no
notice is emitted before that (R151, R152). With no load pending the form is refused, the model's choice
for an instruction no byte decodes to (log 6). -/
def Obligations.UgdataShiftsAndCompletes : Prop :=
  (∀ (c : Chip) (n : Nat) (b : Byte), 0 < n → decodeByte c n b = .ugdata b)
  ∧ ∀ (s : State) (d : Byte),
      let acc : Word := (s.ugAcc <<< 8) ||| d.setWidth 16
      (2 ≤ s.ugRemaining →
        exec (.ugdata d) s = .next (refresh { s with ugRemaining := s.ugRemaining - 1, ugAcc := acc }))
      ∧ (s.ugRemaining = 1 →
        exec (.ugdata d) s = .next (refresh (setdata acc d { s with ugRemaining := 0, ugAcc := acc })))
      ∧ (s.ugRemaining = 0 → exec (.ugdata d) s = .refused .noGlyphLoadPending)

/-- The in-band tests of the write path, in their order and on the whole opcode byte, whether the byte came as a
character or ended a glyph load (R200, R201, R217 item 1): each code takes its own meaning, and only a byte
that is none of the six writes the pattern. -/
def Obligations.WritePathTestsCodesInOrder : Prop :=
  ∀ (s : State) (seg : Word) (op : Byte),
    let c := s.chip
    let p := cellIx s.pcursorPos
    let byteOf := fun k : CharIx => (0#2 ++ k : Byte)
    (op = byteOf c.flashMarkCode →
      setdata seg op s = if (s.pat p).getLsbD c.flashMarkBit.val = true then move seg false s
        else s.setCells fun i => if i = p then
            { pattern := s.pat p ||| (1#16 <<< c.flashMarkBit.val), attr := .flash } else s.cell i)
    ∧ (op ≠ byteOf c.flashMarkCode → op = byteOf c.undefinedCode → setdata seg op s = s)
    ∧ (op ∉ [byteOf c.flashMarkCode, byteOf c.undefinedCode] →
        (op = byteOf c.dpCode ∨ op = byteOf c.semiCode) →
        setdata seg op s = if (s.pat p).getLsbD c.dpBit.val = true then move seg false s
          else s.setPat p (s.pat p ||| (1#16 <<< c.dpBit.val)))
    ∧ (op ∉ [byteOf c.flashMarkCode, byteOf c.undefinedCode, byteOf c.dpCode, byteOf c.semiCode] →
        op = byteOf c.glyphTriggerCode → setdata seg op s = { s with ugRemaining := 2 })
    ∧ (op ∉ [byteOf c.flashMarkCode, byteOf c.undefinedCode, byteOf c.dpCode, byteOf c.semiCode,
          byteOf c.glyphTriggerCode] →
        op = byteOf c.dummyCode → setdata seg op s = move seg false s)
    ∧ (op ∉ [byteOf c.flashMarkCode, byteOf c.undefinedCode, byteOf c.dpCode, byteOf c.semiCode,
          byteOf c.glyphTriggerCode, byteOf c.dummyCode] →
        setdata seg op s = move seg true s)

/-- `UGLOAD p` (the trigger and the two bytes of `p`), where the trigger code is no earlier code and the low byte
of `p` no in-band code, stores `p` by an ordinary character write: the glyph loader is idle again, the
accumulator holds `p`, and in a rotate mode the cursor's cell gets `p` and becomes the last written one
(R77, R109, R151, R152, R206, R208, R209, R211, R212). -/
def Obligations.UgloadWritesThePattern : Prop :=
  ∀ (s : State) (p : Word) (rest : List Event),
    s.inputs = ugload s.chip p ++ rest → s.ugRemaining = 0 →
    s.chip.glyphTriggerCode ∉ [s.chip.flashMarkCode, s.chip.undefinedCode, s.chip.dpCode, s.chip.semiCode] →
    (∀ k : CharIx, s.chip.isInBand k = true → p.extractLsb' 0 8 ≠ (0#2 ++ k : Byte)) →
      ∃ t, Host.Core.run Sys2Proof.core 3 s = .next t
        ∧ t.inputs = rest ∧ t.ugRemaining = 0 ∧ t.ugAcc = p ∧ t.pcursorPos = s.cursorPos
        ∧ ((s.effectiveMode = .rotateLeft ∨ s.effectiveMode = .rotateRight) →
            (∀ i, t.pat i = if i = cellIx s.cursorPos then p else s.pat i)
            ∧ t.cursorPos = if s.effectiveMode = .rotateLeft then s.cursorPos + 1#4 else s.cursorPos - 1#4)

/-! ### The cursor engine -/

/-- A scroll mode falls back to its rotate mode while the window is invalid, for the one write; the mode is not
written (R210), and a move makes the old cursor position the last written one (R209). -/
def Obligations.InvalidWindowFallsBackToRotate : Prop :=
  (∀ s : State,
    (s.winValid = true → s.effectiveMode = s.mode)
    ∧ (s.mode = .rotateLeft → s.effectiveMode = .rotateLeft)
    ∧ (s.mode = .rotateRight → s.effectiveMode = .rotateRight)
    ∧ (s.winValid = false → s.mode = .scrollLeft → s.effectiveMode = .rotateLeft)
    ∧ (s.winValid = false → s.mode = .scrollRight → s.effectiveMode = .rotateRight))
  ∧ (∀ (s : State) (seg : Word) (change : Bool),
      (move seg change s).mode = s.mode ∧ (move seg change s).pcursorPos = s.cursorPos)

/-- A move in a rotate mode writes the cursor's cell, if it writes, keeping its attribute, and steps the cursor
one right (15 to 0) or one left (0 to 15); the window and `scroll_active` play no part (R211, R212). -/
def Obligations.RotateStepsWrapAround : Prop :=
  ∀ (s : State) (seg : Word) (change : Bool),
    (s.effectiveMode = .rotateLeft →
      move seg change s = { (if change then s.setPat (cellIx s.cursorPos) seg else s) with
        pcursorPos := s.cursorPos, cursorPos := BitVec.ofNat 4 ((s.cursorPos.toNat + 1) % 16) })
    ∧ (s.effectiveMode = .rotateRight →
      move seg change s = { (if change then s.setPat (cellIx s.cursorPos) seg else s) with
        pcursorPos := s.cursorPos, cursorPos := BitVec.ofNat 4 ((s.cursorPos.toNat + 15) % 16) })

/-- A move in ScrollLeft: before the window's end it writes at the cursor, steps right and clears
`scroll_active` (R213); at or beyond the end, with the slot claimed, the window shifts left by one cell,
attributes too, with it unclaimed the slot is claimed, and the end cell's pattern becomes the character, or
0 when none is written (R214). -/
def Obligations.ScrollLeftStepsAndShifts : Prop :=
  ∀ (s : State) (seg : Word) (change : Bool), s.effectiveMode = .scrollLeft →
    (s.cursorPos.toNat < s.winEnd.toNat →
      move seg change s = { (if change then s.setPat (cellIx s.cursorPos) seg else s) with
        pcursorPos := s.cursorPos, scrollActive := false
        cursorPos := BitVec.ofNat 4 (s.cursorPos.toNat + 1) })
    ∧ (s.winEnd.toNat ≤ s.cursorPos.toNat →
      ∃ t, move seg change s = t
        ∧ t = { s with cells := t.cells, pcursorPos := s.cursorPos, scrollActive := true }
        ∧ ∀ i : CellIx,
            (t.attr i = if s.scrollActive = true ∧ s.winStart.toNat ≤ i.val ∧ i.val < s.winEnd.toNat
                        then s.attr (i + 1) else s.attr i)
            ∧ t.pat i = if i = cellIx s.winEnd then (if change then seg else 0#16)
                        else if s.scrollActive = true ∧ s.winStart.toNat ≤ i.val ∧ i.val < s.winEnd.toNat
                        then s.pat (i + 1) else s.pat i)

/-- A move in ScrollRight, the mirror about the window's start (R215, R216). -/
def Obligations.ScrollRightStepsAndShifts : Prop :=
  ∀ (s : State) (seg : Word) (change : Bool), s.effectiveMode = .scrollRight →
    (s.winStart.toNat < s.cursorPos.toNat →
      move seg change s = { (if change then s.setPat (cellIx s.cursorPos) seg else s) with
        pcursorPos := s.cursorPos, scrollActive := false
        cursorPos := BitVec.ofNat 4 (s.cursorPos.toNat - 1) })
    ∧ (s.cursorPos.toNat ≤ s.winStart.toNat →
      ∃ t, move seg change s = t
        ∧ t = { s with cells := t.cells, pcursorPos := s.cursorPos, scrollActive := true }
        ∧ ∀ i : CellIx,
            (t.attr i = if s.scrollActive = true ∧ s.winStart.toNat < i.val ∧ i.val ≤ s.winEnd.toNat
                        then s.attr (i - 1) else s.attr i)
            ∧ t.pat i = if i = cellIx s.winStart then (if change then seg else 0#16)
                        else if s.scrollActive = true ∧ s.winStart.toNat < i.val ∧ i.val ≤ s.winEnd.toNat
                        then s.pat (i - 1) else s.pat i)

/-- RotateLeft then some writes, RotateRight then as many again: the cursor is back where it was, from every
state (the closed loop of the spec's L1.2; R157, R158, R211, R212). -/
def Obligations.RotatesFormAClosedLoop : Prop :=
  ∀ (s : State) (ks js : List CharIx), ks.length = js.length →
    ∃ t, runInstrs ([.modeRl 0] ++ ks.map .chr ++ [.modeRr 0] ++ js.map .chr) s = .next t
      ∧ t.cursorPos = s.cursorPos

/-- The scrolling window (the spec's L1.3 for every window and every text; R213, R214): characters written in
ScrollLeft mode from the window's start, with `scroll_active` clear, fill it from left to right, and once
there are as many as it has cells it shows the last of them in order. -/
def Obligations.ScrollLeftWindowShowsTheLastCharacters : Prop :=
  ∀ (s : State) (ks : List CharIx),
    s.mode = .scrollLeft → s.winStart.toNat ≤ s.winEnd.toNat → s.cursorPos = s.winStart →
    s.scrollActive = false →
    s.winEnd.toNat - s.winStart.toNat + 1 ≤ ks.length →
      ∃ t, runInstrs (ks.map .chr) s = .next t ∧ t.cursorPos = s.winEnd
        ∧ ∀ (j : Nat) (i : CellIx) (k : CharIx),
            i.val = s.winStart.toNat + j → i.val ≤ s.winEnd.toNat →
            ks[ks.length - (s.winEnd.toNat - s.winStart.toNat + 1) + j]? = some k →
              t.pat i = s.chip.charset.get (charIx k)

/-- After CHR `k`, if the refresh leaves the attribute of the cell it wrote Normal, that cell's sink shows the
remapped charset entry (R306). The written cell is the cursor's, or the boundary cell of a scroll mode
whose window the cursor has reached. -/
def Obligations.CharacterShowsOnItsSink : Prop :=
  ∀ (s : State) (k : CharIx) (i : CellIx),
    (i = match s.effectiveMode with
      | .rotateLeft | .rotateRight => cellIx s.cursorPos
      | .scrollLeft => if s.cursorPos.toNat < s.winEnd.toNat then cellIx s.cursorPos else cellIx s.winEnd
      | .scrollRight =>
        if s.winStart.toNat < s.cursorPos.toNat then cellIx s.cursorPos else cellIx s.winStart) →
    ∃ t, exec (.chr k) s = .next t ∧ t.pat i = s.chip.charset.get (charIx k)
      ∧ (t.attr i = .normal → t.sink i = remap s.chip (s.chip.charset.get (charIx k)))

/-! ### Frames -/

/-- The forms that store no pattern (commands but CLR.WIN, CLR.OUT and CLR.ALL; UNDEF and UGTRIG) leave every
pattern, the last-written position and the glyph accumulator as they were, and those that store no
attribute either leave every attribute unless the timer expires in their refresh, which FRATE's never
does. -/
def Obligations.NonStoringFormsFrame : Prop :=
  ∀ (i : Instr) (s t : State), exec i s = .next t →
    (storesNoPattern i →
      (∀ j, t.pat j = s.pat j) ∧ t.pcursorPos = s.pcursorPos ∧ t.ugAcc = s.ugAcc)
    ∧ (storesNoAttr i → (s.flashTimer ≠ 1 ∨ ∃ n, i = .frate n) → ∀ j, t.attr j = s.attr j)

/-- Which forms may change which control field (R34 to R47, R51, R52): the whole-machine reading of "written
only by", for instructions. -/
def Obligations.FieldsAreWrittenOnlyByTheirForms : Prop :=
  ∀ (i : Instr) (s t : State), exec i s = .next t →
    (t.cursorPos ≠ s.cursorPos → (∃ n, i = .setcur n) ∨ (∃ n, i = .wend n) ∨ mayMove i)
    ∧ (t.pcursorPos ≠ s.pcursorPos → mayMove i)
    ∧ (t.winStart ≠ s.winStart → ∃ n, i = .wstart n)
    ∧ (t.winEnd ≠ s.winEnd → ∃ n, i = .wend n)
    ∧ (t.mode ≠ s.mode → ∃ x, i = .modeRl x ∨ i = .modeRr x ∨ i = .modeSl x ∨ i = .modeSr x)
    ∧ (t.scrollActive ≠ s.scrollActive → (∃ n, i = .setcur n) ∨ (∃ n, i = .wend n) ∨ mayMove i)
    ∧ (t.flashControl ≠ s.flashControl →
        ∃ x, i = .fctlNone x ∨ i = .fctlIn x ∨ i = .fctlOut x ∨ i = .fctlAll x)
    ∧ (t.flashRate ≠ s.flashRate → (∃ n, i = .frate n) ∨ (s.flashTimer = 1 ∧ s.flashing = true))
    ∧ (t.flashing ≠ s.flashing → (∃ n, i = .frate n) ∨ (∃ x, i = .fctlNone x) ∨ s.flashTimer = 1)
    ∧ (t.ugRemaining ≠ s.ugRemaining → i = .ugtrig ∨ ∃ d, i = .ugdata d)
    ∧ (t.ugAcc ≠ s.ugAcc → ∃ d, i = .ugdata d)
    ∧ t.srCount = s.srCount ∧ t.srAcc = s.srAcc ∧ t.clkLevel = s.clkLevel ∧ t.dataLevel = s.dataLevel
    ∧ t.chip = s.chip ∧ t.inputs = s.inputs

/-- The character forms that always move (CHR, CHRX, DUMMY) store to one cell's pattern: the cursor's in a
rotate mode or inside the window, the boundary cell otherwise. With no shift every other cell's pattern is
as it was; with one, every cell outside the window is; and attributes are kept unless a shift moves them or
the timer expires in the refresh (R79, R211 to R216, R217 item 5). -/
def Obligations.MovingWritesFrame : Prop :=
  ∀ (i : Instr) (s t : State), ((∃ k, i = .chr k) ∨ (∃ k, i = .chrx k) ∨ i = .dummy) → exec i s = .next t →
    ((s.effectiveMode = .rotateLeft ∨ s.effectiveMode = .rotateRight
        ∨ (s.effectiveMode = .scrollLeft ∧ s.cursorPos.toNat < s.winEnd.toNat)
        ∨ (s.effectiveMode = .scrollRight ∧ s.winStart.toNat < s.cursorPos.toNat)) →
      (∀ j, j ≠ cellIx s.cursorPos → t.pat j = s.pat j)
      ∧ (i = .dummy → ∀ j, t.pat j = s.pat j)
      ∧ (s.flashTimer ≠ 1 → ∀ j, t.attr j = s.attr j))
    ∧ (s.effectiveMode = .scrollLeft → s.winEnd.toNat ≤ s.cursorPos.toNat →
      (s.scrollActive = false → (∀ j, j ≠ cellIx s.winEnd → t.pat j = s.pat j)
        ∧ (s.flashTimer ≠ 1 → ∀ j, t.attr j = s.attr j))
      ∧ ∀ j : CellIx, ¬ (s.winStart.toNat ≤ j.val ∧ j.val ≤ s.winEnd.toNat) →
          t.pat j = s.pat j ∧ (s.flashTimer ≠ 1 → t.attr j = s.attr j))
    ∧ (s.effectiveMode = .scrollRight → s.cursorPos.toNat ≤ s.winStart.toNat →
      (s.scrollActive = false → (∀ j, j ≠ cellIx s.winStart → t.pat j = s.pat j)
        ∧ (s.flashTimer ≠ 1 → ∀ j, t.attr j = s.attr j))
      ∧ ∀ j : CellIx, ¬ (s.winStart.toNat ≤ j.val ∧ j.val ≤ s.winEnd.toNat) →
          t.pat j = s.pat j ∧ (s.flashTimer ≠ 1 → t.attr j = s.attr j))

/-! ### Invariants and whole-machine rules -/

/-- The ranges that hold between any two events are kept by every step, from every state that has them (R50). The
allowed parameters are the model's reading of R10 and R11 (log 5, log 15). -/
def Obligations.EveryStepKeepsTheRanges : Prop :=
  ∀ s t : State, s.inRange → step s = .next t → t.inRange

/-- The three invariants hold after reset: the ranges (R50), the empty partial byte (R139) and sinks that show
their cells (R352). That the parameters are allowed ones is how Config is written (log 3, log 5). -/
def Obligations.ResetMeetsTheInvariants : Prop :=
  State.reset.inRange ∧ State.reset.receiverAligned ∧ State.reset.sinksShowCells

/-- Between bytes the partial byte is held in the low `sr_count` bits of `sr_acc` and nothing stands above it
(R132, R139): kept by every step but a restore, which may bring in any accumulator. -/
def Obligations.EveryStepKeepsTheReceiverAligned : Prop :=
  ∀ s t : State, s.srCount ≤ 7 → s.receiverAligned → ¬ s.nextIsRestore → step s = .next t → t.receiverAligned

/-- Every sink shows its cell (R250, R345): kept by every step, from every state that has it. -/
def Obligations.EveryStepKeepsSinksShowingCells : Prop :=
  ∀ s t : State, s.sinksShowCells → step s = .next t → t.sinksShowCells

/-- No step writes the parameters: the character ROM cannot be written (R71, R300), and neither can the others.
That they stand in the state is the model's choice (log 3). -/
def Obligations.NoStepWritesTheParameters : Prop :=
  ∀ s t : State, step s = .next t → t.chip = s.chip

/-- Diagnostics are observational: a step never reads the stream (the two runs, with it and without it, agree
in everything else), and it only appends to it, one notice at most (R320, R321). -/
def Obligations.DiagnosticsAreObservational : Prop :=
  (∀ s : State, thenNext (step s) State.withoutDiags = thenNext (step s.withoutDiags) State.withoutDiags)
  ∧ (∀ s t : State, step s = .next t → ∃ l : List Diag, t.diags = s.diags ++ l ∧ l.length ≤ 1)

/-- No command reads the sinks (R48, R51): two states that differ in their sinks alone take the same step. -/
def Obligations.SinksAreNeverRead : Prop :=
  ∀ (s : State) (o o' : Vector Word 16),
    thenNext (step (s.withSinks o)) (fun t => t.withSinks o') = thenNext (step s) (fun t => t.withSinks o')
end

