-- ==== Sys2Proof/Laws/State.lean ====
section
/-! SUPPORT. The state under the named updates: what each leaves as it was (one line per field, by rfl), and the
reading of cells after a write. -/

namespace Sys2Proof.Machine

/-! ### setCells -/

@[simp] theorem State.setCells_cursorPos (s : State) (f : CellIx → Cell) : (s.setCells f).cursorPos = s.cursorPos := rfl
@[simp] theorem State.setCells_pcursorPos (s : State) (f : CellIx → Cell) : (s.setCells f).pcursorPos = s.pcursorPos := rfl
@[simp] theorem State.setCells_winStart (s : State) (f : CellIx → Cell) : (s.setCells f).winStart = s.winStart := rfl
@[simp] theorem State.setCells_winEnd (s : State) (f : CellIx → Cell) : (s.setCells f).winEnd = s.winEnd := rfl
@[simp] theorem State.setCells_mode (s : State) (f : CellIx → Cell) : (s.setCells f).mode = s.mode := rfl
@[simp] theorem State.setCells_scrollActive (s : State) (f : CellIx → Cell) : (s.setCells f).scrollActive = s.scrollActive := rfl
@[simp] theorem State.setCells_flashRate (s : State) (f : CellIx → Cell) : (s.setCells f).flashRate = s.flashRate := rfl
@[simp] theorem State.setCells_flashControl (s : State) (f : CellIx → Cell) : (s.setCells f).flashControl = s.flashControl := rfl
@[simp] theorem State.setCells_flashTimer (s : State) (f : CellIx → Cell) : (s.setCells f).flashTimer = s.flashTimer := rfl
@[simp] theorem State.setCells_flashing (s : State) (f : CellIx → Cell) : (s.setCells f).flashing = s.flashing := rfl
@[simp] theorem State.setCells_ugRemaining (s : State) (f : CellIx → Cell) : (s.setCells f).ugRemaining = s.ugRemaining := rfl
@[simp] theorem State.setCells_ugAcc (s : State) (f : CellIx → Cell) : (s.setCells f).ugAcc = s.ugAcc := rfl
@[simp] theorem State.setCells_srCount (s : State) (f : CellIx → Cell) : (s.setCells f).srCount = s.srCount := rfl
@[simp] theorem State.setCells_srAcc (s : State) (f : CellIx → Cell) : (s.setCells f).srAcc = s.srAcc := rfl
@[simp] theorem State.setCells_clkLevel (s : State) (f : CellIx → Cell) : (s.setCells f).clkLevel = s.clkLevel := rfl
@[simp] theorem State.setCells_dataLevel (s : State) (f : CellIx → Cell) : (s.setCells f).dataLevel = s.dataLevel := rfl
@[simp] theorem State.setCells_out (s : State) (f : CellIx → Cell) : (s.setCells f).out = s.out := rfl
@[simp] theorem State.setCells_chip (s : State) (f : CellIx → Cell) : (s.setCells f).chip = s.chip := rfl
@[simp] theorem State.setCells_diags (s : State) (f : CellIx → Cell) : (s.setCells f).diags = s.diags := rfl
@[simp] theorem State.setCells_inputs (s : State) (f : CellIx → Cell) : (s.setCells f).inputs = s.inputs := rfl

/-! ### setPat -/

@[simp] theorem State.setPat_cursorPos (s : State) (i : CellIx) (v : Word) : (s.setPat i v).cursorPos = s.cursorPos := rfl
@[simp] theorem State.setPat_pcursorPos (s : State) (i : CellIx) (v : Word) : (s.setPat i v).pcursorPos = s.pcursorPos := rfl
@[simp] theorem State.setPat_winStart (s : State) (i : CellIx) (v : Word) : (s.setPat i v).winStart = s.winStart := rfl
@[simp] theorem State.setPat_winEnd (s : State) (i : CellIx) (v : Word) : (s.setPat i v).winEnd = s.winEnd := rfl
@[simp] theorem State.setPat_mode (s : State) (i : CellIx) (v : Word) : (s.setPat i v).mode = s.mode := rfl
@[simp] theorem State.setPat_scrollActive (s : State) (i : CellIx) (v : Word) : (s.setPat i v).scrollActive = s.scrollActive := rfl
@[simp] theorem State.setPat_flashRate (s : State) (i : CellIx) (v : Word) : (s.setPat i v).flashRate = s.flashRate := rfl
@[simp] theorem State.setPat_flashControl (s : State) (i : CellIx) (v : Word) : (s.setPat i v).flashControl = s.flashControl := rfl
@[simp] theorem State.setPat_flashTimer (s : State) (i : CellIx) (v : Word) : (s.setPat i v).flashTimer = s.flashTimer := rfl
@[simp] theorem State.setPat_flashing (s : State) (i : CellIx) (v : Word) : (s.setPat i v).flashing = s.flashing := rfl
@[simp] theorem State.setPat_ugRemaining (s : State) (i : CellIx) (v : Word) : (s.setPat i v).ugRemaining = s.ugRemaining := rfl
@[simp] theorem State.setPat_ugAcc (s : State) (i : CellIx) (v : Word) : (s.setPat i v).ugAcc = s.ugAcc := rfl
@[simp] theorem State.setPat_srCount (s : State) (i : CellIx) (v : Word) : (s.setPat i v).srCount = s.srCount := rfl
@[simp] theorem State.setPat_srAcc (s : State) (i : CellIx) (v : Word) : (s.setPat i v).srAcc = s.srAcc := rfl
@[simp] theorem State.setPat_clkLevel (s : State) (i : CellIx) (v : Word) : (s.setPat i v).clkLevel = s.clkLevel := rfl
@[simp] theorem State.setPat_dataLevel (s : State) (i : CellIx) (v : Word) : (s.setPat i v).dataLevel = s.dataLevel := rfl
@[simp] theorem State.setPat_out (s : State) (i : CellIx) (v : Word) : (s.setPat i v).out = s.out := rfl
@[simp] theorem State.setPat_chip (s : State) (i : CellIx) (v : Word) : (s.setPat i v).chip = s.chip := rfl
@[simp] theorem State.setPat_diags (s : State) (i : CellIx) (v : Word) : (s.setPat i v).diags = s.diags := rfl
@[simp] theorem State.setPat_inputs (s : State) (i : CellIx) (v : Word) : (s.setPat i v).inputs = s.inputs := rfl

/-! ### setAttrs -/

@[simp] theorem State.setAttrs_cursorPos (s : State) (a : CellIx → Attr) : (s.setAttrs a).cursorPos = s.cursorPos := rfl
@[simp] theorem State.setAttrs_pcursorPos (s : State) (a : CellIx → Attr) : (s.setAttrs a).pcursorPos = s.pcursorPos := rfl
@[simp] theorem State.setAttrs_winStart (s : State) (a : CellIx → Attr) : (s.setAttrs a).winStart = s.winStart := rfl
@[simp] theorem State.setAttrs_winEnd (s : State) (a : CellIx → Attr) : (s.setAttrs a).winEnd = s.winEnd := rfl
@[simp] theorem State.setAttrs_mode (s : State) (a : CellIx → Attr) : (s.setAttrs a).mode = s.mode := rfl
@[simp] theorem State.setAttrs_scrollActive (s : State) (a : CellIx → Attr) : (s.setAttrs a).scrollActive = s.scrollActive := rfl
@[simp] theorem State.setAttrs_flashRate (s : State) (a : CellIx → Attr) : (s.setAttrs a).flashRate = s.flashRate := rfl
@[simp] theorem State.setAttrs_flashControl (s : State) (a : CellIx → Attr) : (s.setAttrs a).flashControl = s.flashControl := rfl
@[simp] theorem State.setAttrs_flashTimer (s : State) (a : CellIx → Attr) : (s.setAttrs a).flashTimer = s.flashTimer := rfl
@[simp] theorem State.setAttrs_flashing (s : State) (a : CellIx → Attr) : (s.setAttrs a).flashing = s.flashing := rfl
@[simp] theorem State.setAttrs_ugRemaining (s : State) (a : CellIx → Attr) : (s.setAttrs a).ugRemaining = s.ugRemaining := rfl
@[simp] theorem State.setAttrs_ugAcc (s : State) (a : CellIx → Attr) : (s.setAttrs a).ugAcc = s.ugAcc := rfl
@[simp] theorem State.setAttrs_srCount (s : State) (a : CellIx → Attr) : (s.setAttrs a).srCount = s.srCount := rfl
@[simp] theorem State.setAttrs_srAcc (s : State) (a : CellIx → Attr) : (s.setAttrs a).srAcc = s.srAcc := rfl
@[simp] theorem State.setAttrs_clkLevel (s : State) (a : CellIx → Attr) : (s.setAttrs a).clkLevel = s.clkLevel := rfl
@[simp] theorem State.setAttrs_dataLevel (s : State) (a : CellIx → Attr) : (s.setAttrs a).dataLevel = s.dataLevel := rfl
@[simp] theorem State.setAttrs_out (s : State) (a : CellIx → Attr) : (s.setAttrs a).out = s.out := rfl
@[simp] theorem State.setAttrs_chip (s : State) (a : CellIx → Attr) : (s.setAttrs a).chip = s.chip := rfl
@[simp] theorem State.setAttrs_diags (s : State) (a : CellIx → Attr) : (s.setAttrs a).diags = s.diags := rfl
@[simp] theorem State.setAttrs_inputs (s : State) (a : CellIx → Attr) : (s.setAttrs a).inputs = s.inputs := rfl

/-! ### setAttrsOn -/

@[simp] theorem State.setAttrsOn_cursorPos (s : State) (r : CellIx → Bool) (a : Attr) : (s.setAttrsOn r a).cursorPos = s.cursorPos := rfl
@[simp] theorem State.setAttrsOn_pcursorPos (s : State) (r : CellIx → Bool) (a : Attr) : (s.setAttrsOn r a).pcursorPos = s.pcursorPos := rfl
@[simp] theorem State.setAttrsOn_winStart (s : State) (r : CellIx → Bool) (a : Attr) : (s.setAttrsOn r a).winStart = s.winStart := rfl
@[simp] theorem State.setAttrsOn_winEnd (s : State) (r : CellIx → Bool) (a : Attr) : (s.setAttrsOn r a).winEnd = s.winEnd := rfl
@[simp] theorem State.setAttrsOn_mode (s : State) (r : CellIx → Bool) (a : Attr) : (s.setAttrsOn r a).mode = s.mode := rfl
@[simp] theorem State.setAttrsOn_scrollActive (s : State) (r : CellIx → Bool) (a : Attr) : (s.setAttrsOn r a).scrollActive = s.scrollActive := rfl
@[simp] theorem State.setAttrsOn_flashRate (s : State) (r : CellIx → Bool) (a : Attr) : (s.setAttrsOn r a).flashRate = s.flashRate := rfl
@[simp] theorem State.setAttrsOn_flashControl (s : State) (r : CellIx → Bool) (a : Attr) : (s.setAttrsOn r a).flashControl = s.flashControl := rfl
@[simp] theorem State.setAttrsOn_flashTimer (s : State) (r : CellIx → Bool) (a : Attr) : (s.setAttrsOn r a).flashTimer = s.flashTimer := rfl
@[simp] theorem State.setAttrsOn_flashing (s : State) (r : CellIx → Bool) (a : Attr) : (s.setAttrsOn r a).flashing = s.flashing := rfl
@[simp] theorem State.setAttrsOn_ugRemaining (s : State) (r : CellIx → Bool) (a : Attr) : (s.setAttrsOn r a).ugRemaining = s.ugRemaining := rfl
@[simp] theorem State.setAttrsOn_ugAcc (s : State) (r : CellIx → Bool) (a : Attr) : (s.setAttrsOn r a).ugAcc = s.ugAcc := rfl
@[simp] theorem State.setAttrsOn_srCount (s : State) (r : CellIx → Bool) (a : Attr) : (s.setAttrsOn r a).srCount = s.srCount := rfl
@[simp] theorem State.setAttrsOn_srAcc (s : State) (r : CellIx → Bool) (a : Attr) : (s.setAttrsOn r a).srAcc = s.srAcc := rfl
@[simp] theorem State.setAttrsOn_clkLevel (s : State) (r : CellIx → Bool) (a : Attr) : (s.setAttrsOn r a).clkLevel = s.clkLevel := rfl
@[simp] theorem State.setAttrsOn_dataLevel (s : State) (r : CellIx → Bool) (a : Attr) : (s.setAttrsOn r a).dataLevel = s.dataLevel := rfl
@[simp] theorem State.setAttrsOn_out (s : State) (r : CellIx → Bool) (a : Attr) : (s.setAttrsOn r a).out = s.out := rfl
@[simp] theorem State.setAttrsOn_chip (s : State) (r : CellIx → Bool) (a : Attr) : (s.setAttrsOn r a).chip = s.chip := rfl
@[simp] theorem State.setAttrsOn_diags (s : State) (r : CellIx → Bool) (a : Attr) : (s.setAttrsOn r a).diags = s.diags := rfl
@[simp] theorem State.setAttrsOn_inputs (s : State) (r : CellIx → Bool) (a : Attr) : (s.setAttrsOn r a).inputs = s.inputs := rfl

/-! ### clearOn -/

@[simp] theorem State.clearOn_cursorPos (s : State) (r : CellIx → Bool) : (s.clearOn r).cursorPos = s.cursorPos := rfl
@[simp] theorem State.clearOn_pcursorPos (s : State) (r : CellIx → Bool) : (s.clearOn r).pcursorPos = s.pcursorPos := rfl
@[simp] theorem State.clearOn_winStart (s : State) (r : CellIx → Bool) : (s.clearOn r).winStart = s.winStart := rfl
@[simp] theorem State.clearOn_winEnd (s : State) (r : CellIx → Bool) : (s.clearOn r).winEnd = s.winEnd := rfl
@[simp] theorem State.clearOn_mode (s : State) (r : CellIx → Bool) : (s.clearOn r).mode = s.mode := rfl
@[simp] theorem State.clearOn_scrollActive (s : State) (r : CellIx → Bool) : (s.clearOn r).scrollActive = s.scrollActive := rfl
@[simp] theorem State.clearOn_flashRate (s : State) (r : CellIx → Bool) : (s.clearOn r).flashRate = s.flashRate := rfl
@[simp] theorem State.clearOn_flashControl (s : State) (r : CellIx → Bool) : (s.clearOn r).flashControl = s.flashControl := rfl
@[simp] theorem State.clearOn_flashTimer (s : State) (r : CellIx → Bool) : (s.clearOn r).flashTimer = s.flashTimer := rfl
@[simp] theorem State.clearOn_flashing (s : State) (r : CellIx → Bool) : (s.clearOn r).flashing = s.flashing := rfl
@[simp] theorem State.clearOn_ugRemaining (s : State) (r : CellIx → Bool) : (s.clearOn r).ugRemaining = s.ugRemaining := rfl
@[simp] theorem State.clearOn_ugAcc (s : State) (r : CellIx → Bool) : (s.clearOn r).ugAcc = s.ugAcc := rfl
@[simp] theorem State.clearOn_srCount (s : State) (r : CellIx → Bool) : (s.clearOn r).srCount = s.srCount := rfl
@[simp] theorem State.clearOn_srAcc (s : State) (r : CellIx → Bool) : (s.clearOn r).srAcc = s.srAcc := rfl
@[simp] theorem State.clearOn_clkLevel (s : State) (r : CellIx → Bool) : (s.clearOn r).clkLevel = s.clkLevel := rfl
@[simp] theorem State.clearOn_dataLevel (s : State) (r : CellIx → Bool) : (s.clearOn r).dataLevel = s.dataLevel := rfl
@[simp] theorem State.clearOn_out (s : State) (r : CellIx → Bool) : (s.clearOn r).out = s.out := rfl
@[simp] theorem State.clearOn_chip (s : State) (r : CellIx → Bool) : (s.clearOn r).chip = s.chip := rfl
@[simp] theorem State.clearOn_diags (s : State) (r : CellIx → Bool) : (s.clearOn r).diags = s.diags := rfl
@[simp] theorem State.clearOn_inputs (s : State) (r : CellIx → Bool) : (s.clearOn r).inputs = s.inputs := rfl

/-! ### shiftWindowLeft -/

@[simp] theorem State.shiftWindowLeft_cursorPos (s : State)  : (s.shiftWindowLeft).cursorPos = s.cursorPos := rfl
@[simp] theorem State.shiftWindowLeft_pcursorPos (s : State)  : (s.shiftWindowLeft).pcursorPos = s.pcursorPos := rfl
@[simp] theorem State.shiftWindowLeft_winStart (s : State)  : (s.shiftWindowLeft).winStart = s.winStart := rfl
@[simp] theorem State.shiftWindowLeft_winEnd (s : State)  : (s.shiftWindowLeft).winEnd = s.winEnd := rfl
@[simp] theorem State.shiftWindowLeft_mode (s : State)  : (s.shiftWindowLeft).mode = s.mode := rfl
@[simp] theorem State.shiftWindowLeft_scrollActive (s : State)  : (s.shiftWindowLeft).scrollActive = s.scrollActive := rfl
@[simp] theorem State.shiftWindowLeft_flashRate (s : State)  : (s.shiftWindowLeft).flashRate = s.flashRate := rfl
@[simp] theorem State.shiftWindowLeft_flashControl (s : State)  : (s.shiftWindowLeft).flashControl = s.flashControl := rfl
@[simp] theorem State.shiftWindowLeft_flashTimer (s : State)  : (s.shiftWindowLeft).flashTimer = s.flashTimer := rfl
@[simp] theorem State.shiftWindowLeft_flashing (s : State)  : (s.shiftWindowLeft).flashing = s.flashing := rfl
@[simp] theorem State.shiftWindowLeft_ugRemaining (s : State)  : (s.shiftWindowLeft).ugRemaining = s.ugRemaining := rfl
@[simp] theorem State.shiftWindowLeft_ugAcc (s : State)  : (s.shiftWindowLeft).ugAcc = s.ugAcc := rfl
@[simp] theorem State.shiftWindowLeft_srCount (s : State)  : (s.shiftWindowLeft).srCount = s.srCount := rfl
@[simp] theorem State.shiftWindowLeft_srAcc (s : State)  : (s.shiftWindowLeft).srAcc = s.srAcc := rfl
@[simp] theorem State.shiftWindowLeft_clkLevel (s : State)  : (s.shiftWindowLeft).clkLevel = s.clkLevel := rfl
@[simp] theorem State.shiftWindowLeft_dataLevel (s : State)  : (s.shiftWindowLeft).dataLevel = s.dataLevel := rfl
@[simp] theorem State.shiftWindowLeft_out (s : State)  : (s.shiftWindowLeft).out = s.out := rfl
@[simp] theorem State.shiftWindowLeft_chip (s : State)  : (s.shiftWindowLeft).chip = s.chip := rfl
@[simp] theorem State.shiftWindowLeft_diags (s : State)  : (s.shiftWindowLeft).diags = s.diags := rfl
@[simp] theorem State.shiftWindowLeft_inputs (s : State)  : (s.shiftWindowLeft).inputs = s.inputs := rfl

/-! ### shiftWindowRight -/

@[simp] theorem State.shiftWindowRight_cursorPos (s : State)  : (s.shiftWindowRight).cursorPos = s.cursorPos := rfl
@[simp] theorem State.shiftWindowRight_pcursorPos (s : State)  : (s.shiftWindowRight).pcursorPos = s.pcursorPos := rfl
@[simp] theorem State.shiftWindowRight_winStart (s : State)  : (s.shiftWindowRight).winStart = s.winStart := rfl
@[simp] theorem State.shiftWindowRight_winEnd (s : State)  : (s.shiftWindowRight).winEnd = s.winEnd := rfl
@[simp] theorem State.shiftWindowRight_mode (s : State)  : (s.shiftWindowRight).mode = s.mode := rfl
@[simp] theorem State.shiftWindowRight_scrollActive (s : State)  : (s.shiftWindowRight).scrollActive = s.scrollActive := rfl
@[simp] theorem State.shiftWindowRight_flashRate (s : State)  : (s.shiftWindowRight).flashRate = s.flashRate := rfl
@[simp] theorem State.shiftWindowRight_flashControl (s : State)  : (s.shiftWindowRight).flashControl = s.flashControl := rfl
@[simp] theorem State.shiftWindowRight_flashTimer (s : State)  : (s.shiftWindowRight).flashTimer = s.flashTimer := rfl
@[simp] theorem State.shiftWindowRight_flashing (s : State)  : (s.shiftWindowRight).flashing = s.flashing := rfl
@[simp] theorem State.shiftWindowRight_ugRemaining (s : State)  : (s.shiftWindowRight).ugRemaining = s.ugRemaining := rfl
@[simp] theorem State.shiftWindowRight_ugAcc (s : State)  : (s.shiftWindowRight).ugAcc = s.ugAcc := rfl
@[simp] theorem State.shiftWindowRight_srCount (s : State)  : (s.shiftWindowRight).srCount = s.srCount := rfl
@[simp] theorem State.shiftWindowRight_srAcc (s : State)  : (s.shiftWindowRight).srAcc = s.srAcc := rfl
@[simp] theorem State.shiftWindowRight_clkLevel (s : State)  : (s.shiftWindowRight).clkLevel = s.clkLevel := rfl
@[simp] theorem State.shiftWindowRight_dataLevel (s : State)  : (s.shiftWindowRight).dataLevel = s.dataLevel := rfl
@[simp] theorem State.shiftWindowRight_out (s : State)  : (s.shiftWindowRight).out = s.out := rfl
@[simp] theorem State.shiftWindowRight_chip (s : State)  : (s.shiftWindowRight).chip = s.chip := rfl
@[simp] theorem State.shiftWindowRight_diags (s : State)  : (s.shiftWindowRight).diags = s.diags := rfl
@[simp] theorem State.shiftWindowRight_inputs (s : State)  : (s.shiftWindowRight).inputs = s.inputs := rfl

/-! ### note -/

@[simp] theorem State.note_cells (s : State) (d : Diag) : (s.note d).cells = s.cells := rfl
@[simp] theorem State.note_cursorPos (s : State) (d : Diag) : (s.note d).cursorPos = s.cursorPos := rfl
@[simp] theorem State.note_pcursorPos (s : State) (d : Diag) : (s.note d).pcursorPos = s.pcursorPos := rfl
@[simp] theorem State.note_winStart (s : State) (d : Diag) : (s.note d).winStart = s.winStart := rfl
@[simp] theorem State.note_winEnd (s : State) (d : Diag) : (s.note d).winEnd = s.winEnd := rfl
@[simp] theorem State.note_mode (s : State) (d : Diag) : (s.note d).mode = s.mode := rfl
@[simp] theorem State.note_scrollActive (s : State) (d : Diag) : (s.note d).scrollActive = s.scrollActive := rfl
@[simp] theorem State.note_flashRate (s : State) (d : Diag) : (s.note d).flashRate = s.flashRate := rfl
@[simp] theorem State.note_flashControl (s : State) (d : Diag) : (s.note d).flashControl = s.flashControl := rfl
@[simp] theorem State.note_flashTimer (s : State) (d : Diag) : (s.note d).flashTimer = s.flashTimer := rfl
@[simp] theorem State.note_flashing (s : State) (d : Diag) : (s.note d).flashing = s.flashing := rfl
@[simp] theorem State.note_ugRemaining (s : State) (d : Diag) : (s.note d).ugRemaining = s.ugRemaining := rfl
@[simp] theorem State.note_ugAcc (s : State) (d : Diag) : (s.note d).ugAcc = s.ugAcc := rfl
@[simp] theorem State.note_srCount (s : State) (d : Diag) : (s.note d).srCount = s.srCount := rfl
@[simp] theorem State.note_srAcc (s : State) (d : Diag) : (s.note d).srAcc = s.srAcc := rfl
@[simp] theorem State.note_clkLevel (s : State) (d : Diag) : (s.note d).clkLevel = s.clkLevel := rfl
@[simp] theorem State.note_dataLevel (s : State) (d : Diag) : (s.note d).dataLevel = s.dataLevel := rfl
@[simp] theorem State.note_out (s : State) (d : Diag) : (s.note d).out = s.out := rfl
@[simp] theorem State.note_chip (s : State) (d : Diag) : (s.note d).chip = s.chip := rfl
@[simp] theorem State.note_inputs (s : State) (d : Diag) : (s.note d).inputs = s.inputs := rfl

@[simp] theorem State.note_diags (s : State) (d : Diag) : (s.note d).diags = s.diags ++ [d] := rfl

/-! ### stopFlashing -/

@[simp] theorem State.stopFlashing_cells (s : State)  : (s.stopFlashing).cells = s.cells := by
  unfold State.stopFlashing; split <;> rfl
@[simp] theorem State.stopFlashing_cursorPos (s : State)  : (s.stopFlashing).cursorPos = s.cursorPos := by
  unfold State.stopFlashing; split <;> rfl
@[simp] theorem State.stopFlashing_pcursorPos (s : State)  : (s.stopFlashing).pcursorPos = s.pcursorPos := by
  unfold State.stopFlashing; split <;> rfl
@[simp] theorem State.stopFlashing_winStart (s : State)  : (s.stopFlashing).winStart = s.winStart := by
  unfold State.stopFlashing; split <;> rfl
@[simp] theorem State.stopFlashing_winEnd (s : State)  : (s.stopFlashing).winEnd = s.winEnd := by
  unfold State.stopFlashing; split <;> rfl
@[simp] theorem State.stopFlashing_mode (s : State)  : (s.stopFlashing).mode = s.mode := by
  unfold State.stopFlashing; split <;> rfl
@[simp] theorem State.stopFlashing_scrollActive (s : State)  : (s.stopFlashing).scrollActive = s.scrollActive := by
  unfold State.stopFlashing; split <;> rfl
@[simp] theorem State.stopFlashing_flashRate (s : State)  : (s.stopFlashing).flashRate = s.flashRate := by
  unfold State.stopFlashing; split <;> rfl
@[simp] theorem State.stopFlashing_flashControl (s : State)  : (s.stopFlashing).flashControl = s.flashControl := by
  unfold State.stopFlashing; split <;> rfl
@[simp] theorem State.stopFlashing_flashTimer (s : State)  : (s.stopFlashing).flashTimer = s.flashTimer := by
  unfold State.stopFlashing; split <;> rfl
@[simp] theorem State.stopFlashing_ugRemaining (s : State)  : (s.stopFlashing).ugRemaining = s.ugRemaining := by
  unfold State.stopFlashing; split <;> rfl
@[simp] theorem State.stopFlashing_ugAcc (s : State)  : (s.stopFlashing).ugAcc = s.ugAcc := by
  unfold State.stopFlashing; split <;> rfl
@[simp] theorem State.stopFlashing_srCount (s : State)  : (s.stopFlashing).srCount = s.srCount := by
  unfold State.stopFlashing; split <;> rfl
@[simp] theorem State.stopFlashing_srAcc (s : State)  : (s.stopFlashing).srAcc = s.srAcc := by
  unfold State.stopFlashing; split <;> rfl
@[simp] theorem State.stopFlashing_clkLevel (s : State)  : (s.stopFlashing).clkLevel = s.clkLevel := by
  unfold State.stopFlashing; split <;> rfl
@[simp] theorem State.stopFlashing_dataLevel (s : State)  : (s.stopFlashing).dataLevel = s.dataLevel := by
  unfold State.stopFlashing; split <;> rfl
@[simp] theorem State.stopFlashing_out (s : State)  : (s.stopFlashing).out = s.out := by
  unfold State.stopFlashing; split <;> rfl
@[simp] theorem State.stopFlashing_chip (s : State)  : (s.stopFlashing).chip = s.chip := by
  unfold State.stopFlashing; split <;> rfl
@[simp] theorem State.stopFlashing_diags (s : State)  : (s.stopFlashing).diags = s.diags := by
  unfold State.stopFlashing; split <;> rfl
@[simp] theorem State.stopFlashing_inputs (s : State)  : (s.stopFlashing).inputs = s.inputs := by
  unfold State.stopFlashing; split <;> rfl

@[simp] theorem State.stopFlashing_flashing (s : State) : s.stopFlashing.flashing = false := by
  unfold State.stopFlashing; split <;> simp_all

/-! ### render -/

@[simp] theorem render_cells (s : State) : (render s).cells = s.cells := rfl
@[simp] theorem render_cursorPos (s : State) : (render s).cursorPos = s.cursorPos := rfl
@[simp] theorem render_pcursorPos (s : State) : (render s).pcursorPos = s.pcursorPos := rfl
@[simp] theorem render_winStart (s : State) : (render s).winStart = s.winStart := rfl
@[simp] theorem render_winEnd (s : State) : (render s).winEnd = s.winEnd := rfl
@[simp] theorem render_mode (s : State) : (render s).mode = s.mode := rfl
@[simp] theorem render_scrollActive (s : State) : (render s).scrollActive = s.scrollActive := rfl
@[simp] theorem render_flashRate (s : State) : (render s).flashRate = s.flashRate := rfl
@[simp] theorem render_flashControl (s : State) : (render s).flashControl = s.flashControl := rfl
@[simp] theorem render_flashTimer (s : State) : (render s).flashTimer = s.flashTimer := rfl
@[simp] theorem render_flashing (s : State) : (render s).flashing = s.flashing := rfl
@[simp] theorem render_ugRemaining (s : State) : (render s).ugRemaining = s.ugRemaining := rfl
@[simp] theorem render_ugAcc (s : State) : (render s).ugAcc = s.ugAcc := rfl
@[simp] theorem render_srCount (s : State) : (render s).srCount = s.srCount := rfl
@[simp] theorem render_srAcc (s : State) : (render s).srAcc = s.srAcc := rfl
@[simp] theorem render_clkLevel (s : State) : (render s).clkLevel = s.clkLevel := rfl
@[simp] theorem render_dataLevel (s : State) : (render s).dataLevel = s.dataLevel := rfl
@[simp] theorem render_chip (s : State) : (render s).chip = s.chip := rfl
@[simp] theorem render_diags (s : State) : (render s).diags = s.diags := rfl
@[simp] theorem render_inputs (s : State) : (render s).inputs = s.inputs := rfl

/-! ### Reading cells and sinks -/

@[simp] theorem get_tabulate {α : Type} (f : CellIx → α) (i : CellIx) : (tabulate f).get i = f i := by
  fin_cases i <;> rfl

@[simp] theorem State.cell_setCells (s : State) (f : CellIx → Cell) (i : CellIx) :
    (s.setCells f).cell i = f i := by simp [State.cell, State.setCells]

/-- Read after write: the written cell has the new pattern, every other cell is as it was (R79). -/
theorem State.cell_setPat (s : State) (i j : CellIx) (v : Word) :
    (s.setPat i v).cell j = if j = i then { s.cell j with pattern := v } else s.cell j := by
  simp [State.setPat]

@[simp] theorem State.pat_setPat (s : State) (i j : CellIx) (v : Word) :
    (s.setPat i v).pat j = if j = i then v else s.pat j := by
  unfold State.pat; rw [State.cell_setPat]; split <;> rfl

@[simp] theorem State.attr_setPat (s : State) (i j : CellIx) (v : Word) :
    (s.setPat i v).attr j = s.attr j := by
  unfold State.attr; rw [State.cell_setPat]; split <;> rfl

@[simp] theorem State.pat_setAttrs (s : State) (a : CellIx → Attr) (i : CellIx) :
    (s.setAttrs a).pat i = s.pat i := by simp [State.pat, State.setAttrs]

@[simp] theorem State.attr_setAttrs (s : State) (a : CellIx → Attr) (i : CellIx) :
    (s.setAttrs a).attr i = a i := by simp [State.attr, State.setAttrs]

@[simp] theorem State.pat_setAttrsOn (s : State) (r : CellIx → Bool) (a : Attr) (i : CellIx) :
    (s.setAttrsOn r a).pat i = s.pat i := by simp [State.setAttrsOn]

@[simp] theorem State.attr_setAttrsOn (s : State) (r : CellIx → Bool) (a : Attr) (i : CellIx) :
    (s.setAttrsOn r a).attr i = if r i then a else s.attr i := by simp [State.setAttrsOn]

theorem State.cell_clearOn (s : State) (r : CellIx → Bool) (i : CellIx) :
    (s.clearOn r).cell i = if r i then { pattern := 0#16, attr := .normal } else s.cell i := by
  simp [State.clearOn]

@[simp] theorem State.pat_clearOn (s : State) (r : CellIx → Bool) (i : CellIx) :
    (s.clearOn r).pat i = if r i then 0#16 else s.pat i := by
  unfold State.pat; rw [State.cell_clearOn]; split <;> rfl

@[simp] theorem State.attr_clearOn (s : State) (r : CellIx → Bool) (i : CellIx) :
    (s.clearOn r).attr i = if r i then .normal else s.attr i := by
  unfold State.attr; rw [State.cell_clearOn]; split <;> rfl

/-- Everything the left shift does: a cell of the window before its end takes its right neighbour (R214). -/
theorem State.cell_shiftWindowLeft (s : State) (i : CellIx) :
    s.shiftWindowLeft.cell i =
      if s.winStart.toNat ≤ i.val ∧ i.val < s.winEnd.toNat then s.cell (i + 1) else s.cell i := by
  simp [State.shiftWindowLeft]

/-- Everything the right shift does: a cell of the window after its start takes its left neighbour (R216). -/
theorem State.cell_shiftWindowRight (s : State) (i : CellIx) :
    s.shiftWindowRight.cell i =
      if s.winStart.toNat < i.val ∧ i.val ≤ s.winEnd.toNat then s.cell (i - 1) else s.cell i := by
  simp [State.shiftWindowRight]

/-- A render sends every sink what its cell shows (R250). -/
@[simp] theorem sink_render (s : State) (i : CellIx) : (render s).sink i = s.visible i := by
  simp [State.sink, render]

/-- Two states with the same cells read the same. -/
theorem State.cell_congr {s t : State} (h : s.cells = t.cells) (i : CellIx) : s.cell i = t.cell i := by
  simp [State.cell, h]

/-- The pattern of a cell after the window shifts left (R214). -/
@[simp] theorem State.pat_shiftWindowLeft (s : State) (i : CellIx) :
    s.shiftWindowLeft.pat i
      = if s.winStart.toNat ≤ i.val ∧ i.val < s.winEnd.toNat then s.pat (i + 1) else s.pat i := by
  unfold State.pat; rw [State.cell_shiftWindowLeft]; split <;> rfl

/-- The attribute of a cell after the window shifts left (R214, D10). -/
@[simp] theorem State.attr_shiftWindowLeft (s : State) (i : CellIx) :
    s.shiftWindowLeft.attr i
      = if s.winStart.toNat ≤ i.val ∧ i.val < s.winEnd.toNat then s.attr (i + 1) else s.attr i := by
  unfold State.attr; rw [State.cell_shiftWindowLeft]; split <;> rfl

/-- The pattern of a cell after the window shifts right (R216). -/
@[simp] theorem State.pat_shiftWindowRight (s : State) (i : CellIx) :
    s.shiftWindowRight.pat i
      = if s.winStart.toNat < i.val ∧ i.val ≤ s.winEnd.toNat then s.pat (i - 1) else s.pat i := by
  unfold State.pat; rw [State.cell_shiftWindowRight]; split <;> rfl

/-- The attribute of a cell after the window shifts right (R216, D10). -/
@[simp] theorem State.attr_shiftWindowRight (s : State) (i : CellIx) :
    s.shiftWindowRight.attr i
      = if s.winStart.toNat < i.val ∧ i.val ≤ s.winEnd.toNat then s.attr (i - 1) else s.attr i := by
  unfold State.attr; rw [State.cell_shiftWindowRight]; split <;> rfl

end Sys2Proof.Machine
end

