-- ==== Sys2Proof/Laws/Cursor.lean ====
section
/-! SUPPORT. The write path: what a move and setdata leave as they were, and their cases said once. -/

namespace Sys2Proof.Machine

@[simp] theorem noteCharacter_cells (b : Byte) (s : State) : (noteCharacter b s).cells = s.cells := by
  unfold noteCharacter; split <;> rfl
@[simp] theorem noteCharacter_cursorPos (b : Byte) (s : State) : (noteCharacter b s).cursorPos = s.cursorPos := by
  unfold noteCharacter; split <;> rfl
@[simp] theorem noteCharacter_pcursorPos (b : Byte) (s : State) : (noteCharacter b s).pcursorPos = s.pcursorPos := by
  unfold noteCharacter; split <;> rfl
@[simp] theorem noteCharacter_winStart (b : Byte) (s : State) : (noteCharacter b s).winStart = s.winStart := by
  unfold noteCharacter; split <;> rfl
@[simp] theorem noteCharacter_winEnd (b : Byte) (s : State) : (noteCharacter b s).winEnd = s.winEnd := by
  unfold noteCharacter; split <;> rfl
@[simp] theorem noteCharacter_mode (b : Byte) (s : State) : (noteCharacter b s).mode = s.mode := by
  unfold noteCharacter; split <;> rfl
@[simp] theorem noteCharacter_scrollActive (b : Byte) (s : State) : (noteCharacter b s).scrollActive = s.scrollActive := by
  unfold noteCharacter; split <;> rfl
@[simp] theorem noteCharacter_flashRate (b : Byte) (s : State) : (noteCharacter b s).flashRate = s.flashRate := by
  unfold noteCharacter; split <;> rfl
@[simp] theorem noteCharacter_flashControl (b : Byte) (s : State) : (noteCharacter b s).flashControl = s.flashControl := by
  unfold noteCharacter; split <;> rfl
@[simp] theorem noteCharacter_flashTimer (b : Byte) (s : State) : (noteCharacter b s).flashTimer = s.flashTimer := by
  unfold noteCharacter; split <;> rfl
@[simp] theorem noteCharacter_flashing (b : Byte) (s : State) : (noteCharacter b s).flashing = s.flashing := by
  unfold noteCharacter; split <;> rfl
@[simp] theorem noteCharacter_ugRemaining (b : Byte) (s : State) : (noteCharacter b s).ugRemaining = s.ugRemaining := by
  unfold noteCharacter; split <;> rfl
@[simp] theorem noteCharacter_ugAcc (b : Byte) (s : State) : (noteCharacter b s).ugAcc = s.ugAcc := by
  unfold noteCharacter; split <;> rfl
@[simp] theorem noteCharacter_srCount (b : Byte) (s : State) : (noteCharacter b s).srCount = s.srCount := by
  unfold noteCharacter; split <;> rfl
@[simp] theorem noteCharacter_srAcc (b : Byte) (s : State) : (noteCharacter b s).srAcc = s.srAcc := by
  unfold noteCharacter; split <;> rfl
@[simp] theorem noteCharacter_clkLevel (b : Byte) (s : State) : (noteCharacter b s).clkLevel = s.clkLevel := by
  unfold noteCharacter; split <;> rfl
@[simp] theorem noteCharacter_dataLevel (b : Byte) (s : State) : (noteCharacter b s).dataLevel = s.dataLevel := by
  unfold noteCharacter; split <;> rfl
@[simp] theorem noteCharacter_out (b : Byte) (s : State) : (noteCharacter b s).out = s.out := by
  unfold noteCharacter; split <;> rfl
@[simp] theorem noteCharacter_chip (b : Byte) (s : State) : (noteCharacter b s).chip = s.chip := by
  unfold noteCharacter; split <;> rfl
@[simp] theorem noteCharacter_inputs (b : Byte) (s : State) : (noteCharacter b s).inputs = s.inputs := by
  unfold noteCharacter; split <;> rfl

@[simp] theorem writeIf_winStart (ch : Bool) (i : CellIx) (g : Word) (s : State) :
    (writeIf ch i g s).winStart = s.winStart := by
  cases ch <;> rfl
@[simp] theorem writeIf_winEnd (ch : Bool) (i : CellIx) (g : Word) (s : State) :
    (writeIf ch i g s).winEnd = s.winEnd := by
  cases ch <;> rfl
@[simp] theorem writeIf_mode (ch : Bool) (i : CellIx) (g : Word) (s : State) :
    (writeIf ch i g s).mode = s.mode := by
  cases ch <;> rfl
@[simp] theorem writeIf_flashRate (ch : Bool) (i : CellIx) (g : Word) (s : State) :
    (writeIf ch i g s).flashRate = s.flashRate := by
  cases ch <;> rfl
@[simp] theorem writeIf_flashControl (ch : Bool) (i : CellIx) (g : Word) (s : State) :
    (writeIf ch i g s).flashControl = s.flashControl := by
  cases ch <;> rfl
@[simp] theorem writeIf_flashTimer (ch : Bool) (i : CellIx) (g : Word) (s : State) :
    (writeIf ch i g s).flashTimer = s.flashTimer := by
  cases ch <;> rfl
@[simp] theorem writeIf_flashing (ch : Bool) (i : CellIx) (g : Word) (s : State) :
    (writeIf ch i g s).flashing = s.flashing := by
  cases ch <;> rfl
@[simp] theorem writeIf_ugRemaining (ch : Bool) (i : CellIx) (g : Word) (s : State) :
    (writeIf ch i g s).ugRemaining = s.ugRemaining := by
  cases ch <;> rfl
@[simp] theorem writeIf_ugAcc (ch : Bool) (i : CellIx) (g : Word) (s : State) :
    (writeIf ch i g s).ugAcc = s.ugAcc := by
  cases ch <;> rfl
@[simp] theorem writeIf_srCount (ch : Bool) (i : CellIx) (g : Word) (s : State) :
    (writeIf ch i g s).srCount = s.srCount := by
  cases ch <;> rfl
@[simp] theorem writeIf_srAcc (ch : Bool) (i : CellIx) (g : Word) (s : State) :
    (writeIf ch i g s).srAcc = s.srAcc := by
  cases ch <;> rfl
@[simp] theorem writeIf_clkLevel (ch : Bool) (i : CellIx) (g : Word) (s : State) :
    (writeIf ch i g s).clkLevel = s.clkLevel := by
  cases ch <;> rfl
@[simp] theorem writeIf_dataLevel (ch : Bool) (i : CellIx) (g : Word) (s : State) :
    (writeIf ch i g s).dataLevel = s.dataLevel := by
  cases ch <;> rfl
@[simp] theorem writeIf_out (ch : Bool) (i : CellIx) (g : Word) (s : State) :
    (writeIf ch i g s).out = s.out := by
  cases ch <;> rfl
@[simp] theorem writeIf_chip (ch : Bool) (i : CellIx) (g : Word) (s : State) :
    (writeIf ch i g s).chip = s.chip := by
  cases ch <;> rfl
@[simp] theorem writeIf_diags (ch : Bool) (i : CellIx) (g : Word) (s : State) :
    (writeIf ch i g s).diags = s.diags := by
  cases ch <;> rfl
@[simp] theorem writeIf_inputs (ch : Bool) (i : CellIx) (g : Word) (s : State) :
    (writeIf ch i g s).inputs = s.inputs := by
  cases ch <;> rfl


@[simp] theorem writeIf_cursorPos (ch : Bool) (i : CellIx) (g : Word) (s : State) :
    (writeIf ch i g s).cursorPos = s.cursorPos := by
  cases ch <;> rfl
@[simp] theorem writeIf_pcursorPos (ch : Bool) (i : CellIx) (g : Word) (s : State) :
    (writeIf ch i g s).pcursorPos = s.pcursorPos := by
  cases ch <;> rfl
@[simp] theorem writeIf_scrollActive (ch : Bool) (i : CellIx) (g : Word) (s : State) :
    (writeIf ch i g s).scrollActive = s.scrollActive := by
  cases ch <;> rfl

@[simp] theorem rotateLeft_winStart (g : Word) (ch : Bool) (s : State) : (rotateLeft g ch s).winStart = s.winStart := by
  simp [rotateLeft]
@[simp] theorem rotateRight_winStart (g : Word) (ch : Bool) (s : State) : (rotateRight g ch s).winStart = s.winStart := by
  simp [rotateRight]
@[simp] theorem claimLeft_winStart (s : State) :
    (shiftOrClaim State.shiftWindowLeft s).winStart = s.winStart := by
  unfold shiftOrClaim; split <;> simp
@[simp] theorem claimRight_winStart (s : State) :
    (shiftOrClaim State.shiftWindowRight s).winStart = s.winStart := by
  unfold shiftOrClaim; split <;> simp
@[simp] theorem scrollLeft_winStart (g : Word) (ch : Bool) (s : State) : (scrollLeft g ch s).winStart = s.winStart := by
  unfold scrollLeft; split <;> simp
@[simp] theorem scrollRight_winStart (g : Word) (ch : Bool) (s : State) : (scrollRight g ch s).winStart = s.winStart := by
  unfold scrollRight; split <;> simp
@[simp] theorem rotateLeft_winEnd (g : Word) (ch : Bool) (s : State) : (rotateLeft g ch s).winEnd = s.winEnd := by
  simp [rotateLeft]
@[simp] theorem rotateRight_winEnd (g : Word) (ch : Bool) (s : State) : (rotateRight g ch s).winEnd = s.winEnd := by
  simp [rotateRight]
@[simp] theorem claimLeft_winEnd (s : State) :
    (shiftOrClaim State.shiftWindowLeft s).winEnd = s.winEnd := by
  unfold shiftOrClaim; split <;> simp
@[simp] theorem claimRight_winEnd (s : State) :
    (shiftOrClaim State.shiftWindowRight s).winEnd = s.winEnd := by
  unfold shiftOrClaim; split <;> simp
@[simp] theorem scrollLeft_winEnd (g : Word) (ch : Bool) (s : State) : (scrollLeft g ch s).winEnd = s.winEnd := by
  unfold scrollLeft; split <;> simp
@[simp] theorem scrollRight_winEnd (g : Word) (ch : Bool) (s : State) : (scrollRight g ch s).winEnd = s.winEnd := by
  unfold scrollRight; split <;> simp
@[simp] theorem rotateLeft_mode (g : Word) (ch : Bool) (s : State) : (rotateLeft g ch s).mode = s.mode := by
  simp [rotateLeft]
@[simp] theorem rotateRight_mode (g : Word) (ch : Bool) (s : State) : (rotateRight g ch s).mode = s.mode := by
  simp [rotateRight]
@[simp] theorem claimLeft_mode (s : State) :
    (shiftOrClaim State.shiftWindowLeft s).mode = s.mode := by
  unfold shiftOrClaim; split <;> simp
@[simp] theorem claimRight_mode (s : State) :
    (shiftOrClaim State.shiftWindowRight s).mode = s.mode := by
  unfold shiftOrClaim; split <;> simp
@[simp] theorem scrollLeft_mode (g : Word) (ch : Bool) (s : State) : (scrollLeft g ch s).mode = s.mode := by
  unfold scrollLeft; split <;> simp
@[simp] theorem scrollRight_mode (g : Word) (ch : Bool) (s : State) : (scrollRight g ch s).mode = s.mode := by
  unfold scrollRight; split <;> simp
@[simp] theorem rotateLeft_flashRate (g : Word) (ch : Bool) (s : State) : (rotateLeft g ch s).flashRate = s.flashRate := by
  simp [rotateLeft]
@[simp] theorem rotateRight_flashRate (g : Word) (ch : Bool) (s : State) : (rotateRight g ch s).flashRate = s.flashRate := by
  simp [rotateRight]
@[simp] theorem claimLeft_flashRate (s : State) :
    (shiftOrClaim State.shiftWindowLeft s).flashRate = s.flashRate := by
  unfold shiftOrClaim; split <;> simp
@[simp] theorem claimRight_flashRate (s : State) :
    (shiftOrClaim State.shiftWindowRight s).flashRate = s.flashRate := by
  unfold shiftOrClaim; split <;> simp
@[simp] theorem scrollLeft_flashRate (g : Word) (ch : Bool) (s : State) : (scrollLeft g ch s).flashRate = s.flashRate := by
  unfold scrollLeft; split <;> simp
@[simp] theorem scrollRight_flashRate (g : Word) (ch : Bool) (s : State) : (scrollRight g ch s).flashRate = s.flashRate := by
  unfold scrollRight; split <;> simp
@[simp] theorem rotateLeft_flashControl (g : Word) (ch : Bool) (s : State) : (rotateLeft g ch s).flashControl = s.flashControl := by
  simp [rotateLeft]
@[simp] theorem rotateRight_flashControl (g : Word) (ch : Bool) (s : State) : (rotateRight g ch s).flashControl = s.flashControl := by
  simp [rotateRight]
@[simp] theorem claimLeft_flashControl (s : State) :
    (shiftOrClaim State.shiftWindowLeft s).flashControl = s.flashControl := by
  unfold shiftOrClaim; split <;> simp
@[simp] theorem claimRight_flashControl (s : State) :
    (shiftOrClaim State.shiftWindowRight s).flashControl = s.flashControl := by
  unfold shiftOrClaim; split <;> simp
@[simp] theorem scrollLeft_flashControl (g : Word) (ch : Bool) (s : State) : (scrollLeft g ch s).flashControl = s.flashControl := by
  unfold scrollLeft; split <;> simp
@[simp] theorem scrollRight_flashControl (g : Word) (ch : Bool) (s : State) : (scrollRight g ch s).flashControl = s.flashControl := by
  unfold scrollRight; split <;> simp
@[simp] theorem rotateLeft_flashTimer (g : Word) (ch : Bool) (s : State) : (rotateLeft g ch s).flashTimer = s.flashTimer := by
  simp [rotateLeft]
@[simp] theorem rotateRight_flashTimer (g : Word) (ch : Bool) (s : State) : (rotateRight g ch s).flashTimer = s.flashTimer := by
  simp [rotateRight]
@[simp] theorem claimLeft_flashTimer (s : State) :
    (shiftOrClaim State.shiftWindowLeft s).flashTimer = s.flashTimer := by
  unfold shiftOrClaim; split <;> simp
@[simp] theorem claimRight_flashTimer (s : State) :
    (shiftOrClaim State.shiftWindowRight s).flashTimer = s.flashTimer := by
  unfold shiftOrClaim; split <;> simp
@[simp] theorem scrollLeft_flashTimer (g : Word) (ch : Bool) (s : State) : (scrollLeft g ch s).flashTimer = s.flashTimer := by
  unfold scrollLeft; split <;> simp
@[simp] theorem scrollRight_flashTimer (g : Word) (ch : Bool) (s : State) : (scrollRight g ch s).flashTimer = s.flashTimer := by
  unfold scrollRight; split <;> simp
@[simp] theorem rotateLeft_flashing (g : Word) (ch : Bool) (s : State) : (rotateLeft g ch s).flashing = s.flashing := by
  simp [rotateLeft]
@[simp] theorem rotateRight_flashing (g : Word) (ch : Bool) (s : State) : (rotateRight g ch s).flashing = s.flashing := by
  simp [rotateRight]
@[simp] theorem claimLeft_flashing (s : State) :
    (shiftOrClaim State.shiftWindowLeft s).flashing = s.flashing := by
  unfold shiftOrClaim; split <;> simp
@[simp] theorem claimRight_flashing (s : State) :
    (shiftOrClaim State.shiftWindowRight s).flashing = s.flashing := by
  unfold shiftOrClaim; split <;> simp
@[simp] theorem scrollLeft_flashing (g : Word) (ch : Bool) (s : State) : (scrollLeft g ch s).flashing = s.flashing := by
  unfold scrollLeft; split <;> simp
@[simp] theorem scrollRight_flashing (g : Word) (ch : Bool) (s : State) : (scrollRight g ch s).flashing = s.flashing := by
  unfold scrollRight; split <;> simp
@[simp] theorem rotateLeft_ugRemaining (g : Word) (ch : Bool) (s : State) : (rotateLeft g ch s).ugRemaining = s.ugRemaining := by
  simp [rotateLeft]
@[simp] theorem rotateRight_ugRemaining (g : Word) (ch : Bool) (s : State) : (rotateRight g ch s).ugRemaining = s.ugRemaining := by
  simp [rotateRight]
@[simp] theorem claimLeft_ugRemaining (s : State) :
    (shiftOrClaim State.shiftWindowLeft s).ugRemaining = s.ugRemaining := by
  unfold shiftOrClaim; split <;> simp
@[simp] theorem claimRight_ugRemaining (s : State) :
    (shiftOrClaim State.shiftWindowRight s).ugRemaining = s.ugRemaining := by
  unfold shiftOrClaim; split <;> simp
@[simp] theorem scrollLeft_ugRemaining (g : Word) (ch : Bool) (s : State) : (scrollLeft g ch s).ugRemaining = s.ugRemaining := by
  unfold scrollLeft; split <;> simp
@[simp] theorem scrollRight_ugRemaining (g : Word) (ch : Bool) (s : State) : (scrollRight g ch s).ugRemaining = s.ugRemaining := by
  unfold scrollRight; split <;> simp
@[simp] theorem rotateLeft_ugAcc (g : Word) (ch : Bool) (s : State) : (rotateLeft g ch s).ugAcc = s.ugAcc := by
  simp [rotateLeft]
@[simp] theorem rotateRight_ugAcc (g : Word) (ch : Bool) (s : State) : (rotateRight g ch s).ugAcc = s.ugAcc := by
  simp [rotateRight]
@[simp] theorem claimLeft_ugAcc (s : State) :
    (shiftOrClaim State.shiftWindowLeft s).ugAcc = s.ugAcc := by
  unfold shiftOrClaim; split <;> simp
@[simp] theorem claimRight_ugAcc (s : State) :
    (shiftOrClaim State.shiftWindowRight s).ugAcc = s.ugAcc := by
  unfold shiftOrClaim; split <;> simp
@[simp] theorem scrollLeft_ugAcc (g : Word) (ch : Bool) (s : State) : (scrollLeft g ch s).ugAcc = s.ugAcc := by
  unfold scrollLeft; split <;> simp
@[simp] theorem scrollRight_ugAcc (g : Word) (ch : Bool) (s : State) : (scrollRight g ch s).ugAcc = s.ugAcc := by
  unfold scrollRight; split <;> simp
@[simp] theorem rotateLeft_srCount (g : Word) (ch : Bool) (s : State) : (rotateLeft g ch s).srCount = s.srCount := by
  simp [rotateLeft]
@[simp] theorem rotateRight_srCount (g : Word) (ch : Bool) (s : State) : (rotateRight g ch s).srCount = s.srCount := by
  simp [rotateRight]
@[simp] theorem claimLeft_srCount (s : State) :
    (shiftOrClaim State.shiftWindowLeft s).srCount = s.srCount := by
  unfold shiftOrClaim; split <;> simp
@[simp] theorem claimRight_srCount (s : State) :
    (shiftOrClaim State.shiftWindowRight s).srCount = s.srCount := by
  unfold shiftOrClaim; split <;> simp
@[simp] theorem scrollLeft_srCount (g : Word) (ch : Bool) (s : State) : (scrollLeft g ch s).srCount = s.srCount := by
  unfold scrollLeft; split <;> simp
@[simp] theorem scrollRight_srCount (g : Word) (ch : Bool) (s : State) : (scrollRight g ch s).srCount = s.srCount := by
  unfold scrollRight; split <;> simp
@[simp] theorem rotateLeft_srAcc (g : Word) (ch : Bool) (s : State) : (rotateLeft g ch s).srAcc = s.srAcc := by
  simp [rotateLeft]
@[simp] theorem rotateRight_srAcc (g : Word) (ch : Bool) (s : State) : (rotateRight g ch s).srAcc = s.srAcc := by
  simp [rotateRight]
@[simp] theorem claimLeft_srAcc (s : State) :
    (shiftOrClaim State.shiftWindowLeft s).srAcc = s.srAcc := by
  unfold shiftOrClaim; split <;> simp
@[simp] theorem claimRight_srAcc (s : State) :
    (shiftOrClaim State.shiftWindowRight s).srAcc = s.srAcc := by
  unfold shiftOrClaim; split <;> simp
@[simp] theorem scrollLeft_srAcc (g : Word) (ch : Bool) (s : State) : (scrollLeft g ch s).srAcc = s.srAcc := by
  unfold scrollLeft; split <;> simp
@[simp] theorem scrollRight_srAcc (g : Word) (ch : Bool) (s : State) : (scrollRight g ch s).srAcc = s.srAcc := by
  unfold scrollRight; split <;> simp
@[simp] theorem rotateLeft_clkLevel (g : Word) (ch : Bool) (s : State) : (rotateLeft g ch s).clkLevel = s.clkLevel := by
  simp [rotateLeft]
@[simp] theorem rotateRight_clkLevel (g : Word) (ch : Bool) (s : State) : (rotateRight g ch s).clkLevel = s.clkLevel := by
  simp [rotateRight]
@[simp] theorem claimLeft_clkLevel (s : State) :
    (shiftOrClaim State.shiftWindowLeft s).clkLevel = s.clkLevel := by
  unfold shiftOrClaim; split <;> simp
@[simp] theorem claimRight_clkLevel (s : State) :
    (shiftOrClaim State.shiftWindowRight s).clkLevel = s.clkLevel := by
  unfold shiftOrClaim; split <;> simp
@[simp] theorem scrollLeft_clkLevel (g : Word) (ch : Bool) (s : State) : (scrollLeft g ch s).clkLevel = s.clkLevel := by
  unfold scrollLeft; split <;> simp
@[simp] theorem scrollRight_clkLevel (g : Word) (ch : Bool) (s : State) : (scrollRight g ch s).clkLevel = s.clkLevel := by
  unfold scrollRight; split <;> simp
@[simp] theorem rotateLeft_dataLevel (g : Word) (ch : Bool) (s : State) : (rotateLeft g ch s).dataLevel = s.dataLevel := by
  simp [rotateLeft]
@[simp] theorem rotateRight_dataLevel (g : Word) (ch : Bool) (s : State) : (rotateRight g ch s).dataLevel = s.dataLevel := by
  simp [rotateRight]
@[simp] theorem claimLeft_dataLevel (s : State) :
    (shiftOrClaim State.shiftWindowLeft s).dataLevel = s.dataLevel := by
  unfold shiftOrClaim; split <;> simp
@[simp] theorem claimRight_dataLevel (s : State) :
    (shiftOrClaim State.shiftWindowRight s).dataLevel = s.dataLevel := by
  unfold shiftOrClaim; split <;> simp
@[simp] theorem scrollLeft_dataLevel (g : Word) (ch : Bool) (s : State) : (scrollLeft g ch s).dataLevel = s.dataLevel := by
  unfold scrollLeft; split <;> simp
@[simp] theorem scrollRight_dataLevel (g : Word) (ch : Bool) (s : State) : (scrollRight g ch s).dataLevel = s.dataLevel := by
  unfold scrollRight; split <;> simp
@[simp] theorem rotateLeft_out (g : Word) (ch : Bool) (s : State) : (rotateLeft g ch s).out = s.out := by
  simp [rotateLeft]
@[simp] theorem rotateRight_out (g : Word) (ch : Bool) (s : State) : (rotateRight g ch s).out = s.out := by
  simp [rotateRight]
@[simp] theorem claimLeft_out (s : State) :
    (shiftOrClaim State.shiftWindowLeft s).out = s.out := by
  unfold shiftOrClaim; split <;> simp
@[simp] theorem claimRight_out (s : State) :
    (shiftOrClaim State.shiftWindowRight s).out = s.out := by
  unfold shiftOrClaim; split <;> simp
@[simp] theorem scrollLeft_out (g : Word) (ch : Bool) (s : State) : (scrollLeft g ch s).out = s.out := by
  unfold scrollLeft; split <;> simp
@[simp] theorem scrollRight_out (g : Word) (ch : Bool) (s : State) : (scrollRight g ch s).out = s.out := by
  unfold scrollRight; split <;> simp
@[simp] theorem rotateLeft_chip (g : Word) (ch : Bool) (s : State) : (rotateLeft g ch s).chip = s.chip := by
  simp [rotateLeft]
@[simp] theorem rotateRight_chip (g : Word) (ch : Bool) (s : State) : (rotateRight g ch s).chip = s.chip := by
  simp [rotateRight]
@[simp] theorem claimLeft_chip (s : State) :
    (shiftOrClaim State.shiftWindowLeft s).chip = s.chip := by
  unfold shiftOrClaim; split <;> simp
@[simp] theorem claimRight_chip (s : State) :
    (shiftOrClaim State.shiftWindowRight s).chip = s.chip := by
  unfold shiftOrClaim; split <;> simp
@[simp] theorem scrollLeft_chip (g : Word) (ch : Bool) (s : State) : (scrollLeft g ch s).chip = s.chip := by
  unfold scrollLeft; split <;> simp
@[simp] theorem scrollRight_chip (g : Word) (ch : Bool) (s : State) : (scrollRight g ch s).chip = s.chip := by
  unfold scrollRight; split <;> simp
@[simp] theorem rotateLeft_diags (g : Word) (ch : Bool) (s : State) : (rotateLeft g ch s).diags = s.diags := by
  simp [rotateLeft]
@[simp] theorem rotateRight_diags (g : Word) (ch : Bool) (s : State) : (rotateRight g ch s).diags = s.diags := by
  simp [rotateRight]
@[simp] theorem claimLeft_diags (s : State) :
    (shiftOrClaim State.shiftWindowLeft s).diags = s.diags := by
  unfold shiftOrClaim; split <;> simp
@[simp] theorem claimRight_diags (s : State) :
    (shiftOrClaim State.shiftWindowRight s).diags = s.diags := by
  unfold shiftOrClaim; split <;> simp
@[simp] theorem scrollLeft_diags (g : Word) (ch : Bool) (s : State) : (scrollLeft g ch s).diags = s.diags := by
  unfold scrollLeft; split <;> simp
@[simp] theorem scrollRight_diags (g : Word) (ch : Bool) (s : State) : (scrollRight g ch s).diags = s.diags := by
  unfold scrollRight; split <;> simp
@[simp] theorem rotateLeft_inputs (g : Word) (ch : Bool) (s : State) : (rotateLeft g ch s).inputs = s.inputs := by
  simp [rotateLeft]
@[simp] theorem rotateRight_inputs (g : Word) (ch : Bool) (s : State) : (rotateRight g ch s).inputs = s.inputs := by
  simp [rotateRight]
@[simp] theorem claimLeft_inputs (s : State) :
    (shiftOrClaim State.shiftWindowLeft s).inputs = s.inputs := by
  unfold shiftOrClaim; split <;> simp
@[simp] theorem claimRight_inputs (s : State) :
    (shiftOrClaim State.shiftWindowRight s).inputs = s.inputs := by
  unfold shiftOrClaim; split <;> simp
@[simp] theorem scrollLeft_inputs (g : Word) (ch : Bool) (s : State) : (scrollLeft g ch s).inputs = s.inputs := by
  unfold scrollLeft; split <;> simp
@[simp] theorem scrollRight_inputs (g : Word) (ch : Bool) (s : State) : (scrollRight g ch s).inputs = s.inputs := by
  unfold scrollRight; split <;> simp
@[simp] theorem rotateLeft_pcursorPos (g : Word) (ch : Bool) (s : State) : (rotateLeft g ch s).pcursorPos = s.pcursorPos := by
  simp [rotateLeft]
@[simp] theorem rotateRight_pcursorPos (g : Word) (ch : Bool) (s : State) : (rotateRight g ch s).pcursorPos = s.pcursorPos := by
  simp [rotateRight]
@[simp] theorem claimLeft_pcursorPos (s : State) :
    (shiftOrClaim State.shiftWindowLeft s).pcursorPos = s.pcursorPos := by
  unfold shiftOrClaim; split <;> simp
@[simp] theorem claimRight_pcursorPos (s : State) :
    (shiftOrClaim State.shiftWindowRight s).pcursorPos = s.pcursorPos := by
  unfold shiftOrClaim; split <;> simp
@[simp] theorem scrollLeft_pcursorPos (g : Word) (ch : Bool) (s : State) : (scrollLeft g ch s).pcursorPos = s.pcursorPos := by
  unfold scrollLeft; split <;> simp
@[simp] theorem scrollRight_pcursorPos (g : Word) (ch : Bool) (s : State) : (scrollRight g ch s).pcursorPos = s.pcursorPos := by
  unfold scrollRight; split <;> simp

@[simp] theorem move_winStart (g : Word) (ch : Bool) (s : State) : (move g ch s).winStart = s.winStart := by
  unfold move; simp only []; split <;> simp
@[simp] theorem move_winEnd (g : Word) (ch : Bool) (s : State) : (move g ch s).winEnd = s.winEnd := by
  unfold move; simp only []; split <;> simp
@[simp] theorem move_mode (g : Word) (ch : Bool) (s : State) : (move g ch s).mode = s.mode := by
  unfold move; simp only []; split <;> simp
@[simp] theorem move_flashRate (g : Word) (ch : Bool) (s : State) : (move g ch s).flashRate = s.flashRate := by
  unfold move; simp only []; split <;> simp
@[simp] theorem move_flashControl (g : Word) (ch : Bool) (s : State) : (move g ch s).flashControl = s.flashControl := by
  unfold move; simp only []; split <;> simp
@[simp] theorem move_flashTimer (g : Word) (ch : Bool) (s : State) : (move g ch s).flashTimer = s.flashTimer := by
  unfold move; simp only []; split <;> simp
@[simp] theorem move_flashing (g : Word) (ch : Bool) (s : State) : (move g ch s).flashing = s.flashing := by
  unfold move; simp only []; split <;> simp
@[simp] theorem move_ugRemaining (g : Word) (ch : Bool) (s : State) : (move g ch s).ugRemaining = s.ugRemaining := by
  unfold move; simp only []; split <;> simp
@[simp] theorem move_ugAcc (g : Word) (ch : Bool) (s : State) : (move g ch s).ugAcc = s.ugAcc := by
  unfold move; simp only []; split <;> simp
@[simp] theorem move_srCount (g : Word) (ch : Bool) (s : State) : (move g ch s).srCount = s.srCount := by
  unfold move; simp only []; split <;> simp
@[simp] theorem move_srAcc (g : Word) (ch : Bool) (s : State) : (move g ch s).srAcc = s.srAcc := by
  unfold move; simp only []; split <;> simp
@[simp] theorem move_clkLevel (g : Word) (ch : Bool) (s : State) : (move g ch s).clkLevel = s.clkLevel := by
  unfold move; simp only []; split <;> simp
@[simp] theorem move_dataLevel (g : Word) (ch : Bool) (s : State) : (move g ch s).dataLevel = s.dataLevel := by
  unfold move; simp only []; split <;> simp
@[simp] theorem move_out (g : Word) (ch : Bool) (s : State) : (move g ch s).out = s.out := by
  unfold move; simp only []; split <;> simp
@[simp] theorem move_chip (g : Word) (ch : Bool) (s : State) : (move g ch s).chip = s.chip := by
  unfold move; simp only []; split <;> simp
@[simp] theorem move_diags (g : Word) (ch : Bool) (s : State) : (move g ch s).diags = s.diags := by
  unfold move; simp only []; split <;> simp
@[simp] theorem move_inputs (g : Word) (ch : Bool) (s : State) : (move g ch s).inputs = s.inputs := by
  unfold move; simp only []; split <;> simp

/-- A move makes the cursor's old place the last written one (R209). -/
@[simp] theorem move_pcursorPos (g : Word) (ch : Bool) (s : State) : (move g ch s).pcursorPos = s.cursorPos := by
  unfold move; simp only []; split <;> simp

/-- What setdata can do (R200): mark, point, start a load, move, or nothing. -/
theorem setdata_cases (g : Word) (op : Byte) (s : State) :
    setdata g op s = flashMarkArm g s ∨ setdata g op s = s ∨ setdata g op s = decimalPointArm g s
      ∨ setdata g op s = glyphTriggerArm s ∨ setdata g op s = move g false s
      ∨ setdata g op s = move g true s := by
  unfold setdata dummyArm normalArm
  (repeat' split) <;> simp

@[simp] theorem flashMarkArm_winStart (g : Word) (s : State) : (flashMarkArm g s).winStart = s.winStart := by
  unfold flashMarkArm; simp only []; split <;> simp
@[simp] theorem decimalPointArm_winStart (g : Word) (s : State) : (decimalPointArm g s).winStart = s.winStart := by
  unfold decimalPointArm; simp only []; split <;> simp
@[simp] theorem flashMarkArm_winEnd (g : Word) (s : State) : (flashMarkArm g s).winEnd = s.winEnd := by
  unfold flashMarkArm; simp only []; split <;> simp
@[simp] theorem decimalPointArm_winEnd (g : Word) (s : State) : (decimalPointArm g s).winEnd = s.winEnd := by
  unfold decimalPointArm; simp only []; split <;> simp
@[simp] theorem flashMarkArm_mode (g : Word) (s : State) : (flashMarkArm g s).mode = s.mode := by
  unfold flashMarkArm; simp only []; split <;> simp
@[simp] theorem decimalPointArm_mode (g : Word) (s : State) : (decimalPointArm g s).mode = s.mode := by
  unfold decimalPointArm; simp only []; split <;> simp
@[simp] theorem flashMarkArm_flashRate (g : Word) (s : State) : (flashMarkArm g s).flashRate = s.flashRate := by
  unfold flashMarkArm; simp only []; split <;> simp
@[simp] theorem decimalPointArm_flashRate (g : Word) (s : State) : (decimalPointArm g s).flashRate = s.flashRate := by
  unfold decimalPointArm; simp only []; split <;> simp
@[simp] theorem flashMarkArm_flashControl (g : Word) (s : State) : (flashMarkArm g s).flashControl = s.flashControl := by
  unfold flashMarkArm; simp only []; split <;> simp
@[simp] theorem decimalPointArm_flashControl (g : Word) (s : State) : (decimalPointArm g s).flashControl = s.flashControl := by
  unfold decimalPointArm; simp only []; split <;> simp
@[simp] theorem flashMarkArm_flashTimer (g : Word) (s : State) : (flashMarkArm g s).flashTimer = s.flashTimer := by
  unfold flashMarkArm; simp only []; split <;> simp
@[simp] theorem decimalPointArm_flashTimer (g : Word) (s : State) : (decimalPointArm g s).flashTimer = s.flashTimer := by
  unfold decimalPointArm; simp only []; split <;> simp
@[simp] theorem flashMarkArm_flashing (g : Word) (s : State) : (flashMarkArm g s).flashing = s.flashing := by
  unfold flashMarkArm; simp only []; split <;> simp
@[simp] theorem decimalPointArm_flashing (g : Word) (s : State) : (decimalPointArm g s).flashing = s.flashing := by
  unfold decimalPointArm; simp only []; split <;> simp
@[simp] theorem flashMarkArm_ugRemaining (g : Word) (s : State) : (flashMarkArm g s).ugRemaining = s.ugRemaining := by
  unfold flashMarkArm; simp only []; split <;> simp
@[simp] theorem decimalPointArm_ugRemaining (g : Word) (s : State) : (decimalPointArm g s).ugRemaining = s.ugRemaining := by
  unfold decimalPointArm; simp only []; split <;> simp
@[simp] theorem flashMarkArm_ugAcc (g : Word) (s : State) : (flashMarkArm g s).ugAcc = s.ugAcc := by
  unfold flashMarkArm; simp only []; split <;> simp
@[simp] theorem decimalPointArm_ugAcc (g : Word) (s : State) : (decimalPointArm g s).ugAcc = s.ugAcc := by
  unfold decimalPointArm; simp only []; split <;> simp
@[simp] theorem flashMarkArm_srCount (g : Word) (s : State) : (flashMarkArm g s).srCount = s.srCount := by
  unfold flashMarkArm; simp only []; split <;> simp
@[simp] theorem decimalPointArm_srCount (g : Word) (s : State) : (decimalPointArm g s).srCount = s.srCount := by
  unfold decimalPointArm; simp only []; split <;> simp
@[simp] theorem flashMarkArm_srAcc (g : Word) (s : State) : (flashMarkArm g s).srAcc = s.srAcc := by
  unfold flashMarkArm; simp only []; split <;> simp
@[simp] theorem decimalPointArm_srAcc (g : Word) (s : State) : (decimalPointArm g s).srAcc = s.srAcc := by
  unfold decimalPointArm; simp only []; split <;> simp
@[simp] theorem flashMarkArm_clkLevel (g : Word) (s : State) : (flashMarkArm g s).clkLevel = s.clkLevel := by
  unfold flashMarkArm; simp only []; split <;> simp
@[simp] theorem decimalPointArm_clkLevel (g : Word) (s : State) : (decimalPointArm g s).clkLevel = s.clkLevel := by
  unfold decimalPointArm; simp only []; split <;> simp
@[simp] theorem flashMarkArm_dataLevel (g : Word) (s : State) : (flashMarkArm g s).dataLevel = s.dataLevel := by
  unfold flashMarkArm; simp only []; split <;> simp
@[simp] theorem decimalPointArm_dataLevel (g : Word) (s : State) : (decimalPointArm g s).dataLevel = s.dataLevel := by
  unfold decimalPointArm; simp only []; split <;> simp
@[simp] theorem flashMarkArm_out (g : Word) (s : State) : (flashMarkArm g s).out = s.out := by
  unfold flashMarkArm; simp only []; split <;> simp
@[simp] theorem decimalPointArm_out (g : Word) (s : State) : (decimalPointArm g s).out = s.out := by
  unfold decimalPointArm; simp only []; split <;> simp
@[simp] theorem flashMarkArm_chip (g : Word) (s : State) : (flashMarkArm g s).chip = s.chip := by
  unfold flashMarkArm; simp only []; split <;> simp
@[simp] theorem decimalPointArm_chip (g : Word) (s : State) : (decimalPointArm g s).chip = s.chip := by
  unfold decimalPointArm; simp only []; split <;> simp
@[simp] theorem flashMarkArm_diags (g : Word) (s : State) : (flashMarkArm g s).diags = s.diags := by
  unfold flashMarkArm; simp only []; split <;> simp
@[simp] theorem decimalPointArm_diags (g : Word) (s : State) : (decimalPointArm g s).diags = s.diags := by
  unfold decimalPointArm; simp only []; split <;> simp
@[simp] theorem flashMarkArm_inputs (g : Word) (s : State) : (flashMarkArm g s).inputs = s.inputs := by
  unfold flashMarkArm; simp only []; split <;> simp
@[simp] theorem decimalPointArm_inputs (g : Word) (s : State) : (decimalPointArm g s).inputs = s.inputs := by
  unfold decimalPointArm; simp only []; split <;> simp
@[simp] theorem setdata_winStart (g : Word) (op : Byte) (s : State) : (setdata g op s).winStart = s.winStart := by
  rcases setdata_cases g op s with h | h | h | h | h | h <;> rw [h] <;> simp [glyphTriggerArm]
@[simp] theorem setdata_winEnd (g : Word) (op : Byte) (s : State) : (setdata g op s).winEnd = s.winEnd := by
  rcases setdata_cases g op s with h | h | h | h | h | h <;> rw [h] <;> simp [glyphTriggerArm]
@[simp] theorem setdata_mode (g : Word) (op : Byte) (s : State) : (setdata g op s).mode = s.mode := by
  rcases setdata_cases g op s with h | h | h | h | h | h <;> rw [h] <;> simp [glyphTriggerArm]
@[simp] theorem setdata_flashRate (g : Word) (op : Byte) (s : State) : (setdata g op s).flashRate = s.flashRate := by
  rcases setdata_cases g op s with h | h | h | h | h | h <;> rw [h] <;> simp [glyphTriggerArm]
@[simp] theorem setdata_flashControl (g : Word) (op : Byte) (s : State) : (setdata g op s).flashControl = s.flashControl := by
  rcases setdata_cases g op s with h | h | h | h | h | h <;> rw [h] <;> simp [glyphTriggerArm]
@[simp] theorem setdata_flashTimer (g : Word) (op : Byte) (s : State) : (setdata g op s).flashTimer = s.flashTimer := by
  rcases setdata_cases g op s with h | h | h | h | h | h <;> rw [h] <;> simp [glyphTriggerArm]
@[simp] theorem setdata_flashing (g : Word) (op : Byte) (s : State) : (setdata g op s).flashing = s.flashing := by
  rcases setdata_cases g op s with h | h | h | h | h | h <;> rw [h] <;> simp [glyphTriggerArm]
@[simp] theorem setdata_ugAcc (g : Word) (op : Byte) (s : State) : (setdata g op s).ugAcc = s.ugAcc := by
  rcases setdata_cases g op s with h | h | h | h | h | h <;> rw [h] <;> simp [glyphTriggerArm]
@[simp] theorem setdata_srCount (g : Word) (op : Byte) (s : State) : (setdata g op s).srCount = s.srCount := by
  rcases setdata_cases g op s with h | h | h | h | h | h <;> rw [h] <;> simp [glyphTriggerArm]
@[simp] theorem setdata_srAcc (g : Word) (op : Byte) (s : State) : (setdata g op s).srAcc = s.srAcc := by
  rcases setdata_cases g op s with h | h | h | h | h | h <;> rw [h] <;> simp [glyphTriggerArm]
@[simp] theorem setdata_clkLevel (g : Word) (op : Byte) (s : State) : (setdata g op s).clkLevel = s.clkLevel := by
  rcases setdata_cases g op s with h | h | h | h | h | h <;> rw [h] <;> simp [glyphTriggerArm]
@[simp] theorem setdata_dataLevel (g : Word) (op : Byte) (s : State) : (setdata g op s).dataLevel = s.dataLevel := by
  rcases setdata_cases g op s with h | h | h | h | h | h <;> rw [h] <;> simp [glyphTriggerArm]
@[simp] theorem setdata_out (g : Word) (op : Byte) (s : State) : (setdata g op s).out = s.out := by
  rcases setdata_cases g op s with h | h | h | h | h | h <;> rw [h] <;> simp [glyphTriggerArm]
@[simp] theorem setdata_chip (g : Word) (op : Byte) (s : State) : (setdata g op s).chip = s.chip := by
  rcases setdata_cases g op s with h | h | h | h | h | h <;> rw [h] <;> simp [glyphTriggerArm]
@[simp] theorem setdata_diags (g : Word) (op : Byte) (s : State) : (setdata g op s).diags = s.diags := by
  rcases setdata_cases g op s with h | h | h | h | h | h <;> rw [h] <;> simp [glyphTriggerArm]
@[simp] theorem setdata_inputs (g : Word) (op : Byte) (s : State) : (setdata g op s).inputs = s.inputs := by
  rcases setdata_cases g op s with h | h | h | h | h | h <;> rw [h] <;> simp [glyphTriggerArm]

/-- A move in RotateLeft (R211). -/
theorem move_rotateLeft {s : State} (h : s.effectiveMode = .rotateLeft) (g : Word) (ch : Bool) :
    move g ch s = rotateLeft g ch { s with pcursorPos := s.cursorPos } := by
  have : ({ s with pcursorPos := s.cursorPos } : State).effectiveMode = .rotateLeft := h
  simp only [move, this]

/-- A move in RotateRight (R212). -/
theorem move_rotateRight {s : State} (h : s.effectiveMode = .rotateRight) (g : Word) (ch : Bool) :
    move g ch s = rotateRight g ch { s with pcursorPos := s.cursorPos } := by
  have : ({ s with pcursorPos := s.cursorPos } : State).effectiveMode = .rotateRight := h
  simp only [move, this]

/-- A move in ScrollLeft (R213, R214). -/
theorem move_scrollLeft {s : State} (h : s.effectiveMode = .scrollLeft) (g : Word) (ch : Bool) :
    move g ch s = scrollLeft g ch { s with pcursorPos := s.cursorPos } := by
  have : ({ s with pcursorPos := s.cursorPos } : State).effectiveMode = .scrollLeft := h
  simp only [move, this]

/-- A move in ScrollRight (R215, R216). -/
theorem move_scrollRight {s : State} (h : s.effectiveMode = .scrollRight) (g : Word) (ch : Bool) :
    move g ch s = scrollRight g ch { s with pcursorPos := s.cursorPos } := by
  have : ({ s with pcursorPos := s.cursorPos } : State).effectiveMode = .scrollRight := h
  simp only [move, this]

end Sys2Proof.Machine
end

