-- ==== Sys2Proof/Laws/Decode.lean ====
section
/-! SUPPORT. The decoder's branches, said once, and the bytes of the in-band codes. -/

namespace Sys2Proof

/-- While a load is pending every byte is glyph data (R101, R102). -/
theorem decodeByte_pending (c : Chip) {n : Nat} (h : 0 < n) (b : Byte) : decodeByte c n b = .ugdata b := by
  simp [decodeByte, h]

/-- With none pending, a byte from 0x80 is a control byte (R104). -/
theorem decodeByte_control (c : Chip) {b : Byte} (h : b[7] = true) : decodeByte c 0 b = decodeControl b := by
  simp [decodeByte, h]

/-- With none pending, a byte 0x40..0x7F is CHRX (R103). -/
theorem decodeByte_chrx (c : Chip) {b : Byte} (h7 : b[7] = false) (h6 : b[6] = true) :
    decodeByte c 0 b = .chrx (charField b) := by
  simp [decodeByte, h7, h6]

/-- With none pending, a byte 0x00..0x3F is an in-band code or CHR (R103). -/
theorem decodeByte_low (c : Chip) {b : Byte} (h7 : b[7] = false) (h6 : b[6] = false) :
    decodeByte c 0 b = decodeLowCharacter c b := by
  simp [decodeByte, h7, h6]

/-- Every in-band code byte is below 0x40 (R10). -/
theorem codeByte_high_bits (k : CharIx) : (codeByte k)[7] = false ∧ (codeByte k)[6] = false := by
  revert k; decide

/-- The index field of a low byte is its code (R103). -/
@[simp] theorem charField_codeByte (k : CharIx) : charField (codeByte k) = k := by
  revert k; decide

/-- Two in-band code bytes are equal exactly when the codes are. -/
@[simp] theorem codeByte_inj (a b : CharIx) : codeByte a = codeByte b ↔ a = b :=
  ⟨fun h => by simpa using congrArg charField h, congrArg codeByte⟩

/-- A byte below 0x40 is the code byte of its index (R103). -/
theorem codeByte_charField {b : Byte} : b[7] = false → b[6] = false → codeByte (charField b) = b := by
  revert b; decide

/-- A code byte, with no load pending, is read by the in-band tests. -/
theorem decodeByte_codeByte (c : Chip) (k : CharIx) :
    decodeByte c 0 (codeByte k) = decodeLowCharacter c (codeByte k) :=
  decodeByte_low c (codeByte_high_bits k).1 (codeByte_high_bits k).2

/-- The form of a control byte encodes back to it under one set of parameters, and the encoding of a control
form does not look at the parameters, so it does under every one. -/
theorem encode_decodeControl (c : Chip) {b : Byte} (h : b[7] = true) : encode c (decodeControl b) = b := by
  unfold decodeControl byParameter
  cases h6 : b[6] <;> cases h5 : b[5] <;> cases h4 : b[4] <;> cases h1 : b[1] <;> cases h0 : b[0] <;>
    simp only [encode] <;> revert b <;> decide

/-- A control byte's form, with no load pending. -/
theorem decodeByte_of_control (c : Chip) {b : Byte} {i : Instr} (h : b[7] = true ∧ decodeControl b = i) :
    decodeByte c 0 b = i := (decodeByte_control c h.1).trans h.2

/-- A byte is read as glyph data exactly while a load is pending (R101, R102). -/
theorem decodeByte_isGlyphData (c : Chip) (n : Nat) (b : Byte) :
    (decodeByte c n b).isGlyphData = true ↔ 0 < n := by
  unfold decodeByte decodeLowCharacter decodeControl byParameter
  by_cases h : 0 < n
  · simp [h, Instr.isGlyphData]
  · simp only [h, if_false, iff_false]
    repeat' split
    all_goals simp [Instr.isGlyphData]

end Sys2Proof
end

