-- ==== Sys2Proof/Laws/Flash.lean ====
section
/-! SUPPORT. The flash controller: what one flash step can do, said once, and what a refresh leaves as it was. -/

namespace Sys2Proof.Machine

/-- Everything one flash step can do (R240 to R242): the idle case, the plain count, and the two expiries. -/
theorem flashStep_cases (s : State) :
    (s.flashTimer = 0 ∧ flashStep s = s)
    ∨ (2 ≤ s.flashTimer ∧ flashStep s = { s with flashTimer := s.flashTimer - 1 })
    ∨ (s.flashTimer = 1 ∧ s.flashing = false ∧ flashStep s = firstPhase { s with flashTimer := 0 })
    ∨ (s.flashTimer = 1 ∧ s.flashing = true ∧ flashStep s = secondPhase { s with flashTimer := 0 }) := by
  rcases Nat.lt_or_ge s.flashTimer 2 with h | h
  · rcases Nat.lt_or_ge s.flashTimer 1 with h0 | h1
    · exact .inl ⟨by omega, by simp [flashStep, show s.flashTimer = 0 by omega]⟩
    · have h1 : s.flashTimer = 1 := by omega
      cases hf : s.flashing <;> simp [flashStep, h1, hf]
  · refine .inr (.inl ⟨h, ?_⟩)
    have h1 : s.flashTimer ≠ 0 := by omega
    have h2 : s.flashTimer - 1 ≠ 0 := by omega
    simp [flashStep, h1, h2]

/-- The second phase either counts and reloads, or ends the flash (R248, R249). -/
theorem secondPhase_cases (s : State) :
    (s.flashRate ≠ 1#4 ∧ secondPhase s
        = { s with flashRate := s.flashRate - 1#4, flashTimer := s.chip.flashBReload })
    ∨ (s.flashRate = 1#4 ∧ secondPhase s = endFlash { s with flashRate := 0#4 }) := by
  by_cases h : s.flashRate = 1#4
  · exact .inr ⟨h, by simp [secondPhase, h]⟩
  · refine .inl ⟨h, ?_⟩
    have : ¬ (s.flashRate - 1#4 = 0#4) := fun e => h (by bv_omega)
    simp [secondPhase, this]

@[simp] theorem firstPhase_cursorPos (s : State) : (firstPhase s).cursorPos = s.cursorPos := rfl
@[simp] theorem endFlash_cursorPos (s : State) : (endFlash s).cursorPos = s.cursorPos := rfl
@[simp] theorem firstPhase_pcursorPos (s : State) : (firstPhase s).pcursorPos = s.pcursorPos := rfl
@[simp] theorem endFlash_pcursorPos (s : State) : (endFlash s).pcursorPos = s.pcursorPos := rfl
@[simp] theorem firstPhase_winStart (s : State) : (firstPhase s).winStart = s.winStart := rfl
@[simp] theorem endFlash_winStart (s : State) : (endFlash s).winStart = s.winStart := rfl
@[simp] theorem firstPhase_winEnd (s : State) : (firstPhase s).winEnd = s.winEnd := rfl
@[simp] theorem endFlash_winEnd (s : State) : (endFlash s).winEnd = s.winEnd := rfl
@[simp] theorem firstPhase_mode (s : State) : (firstPhase s).mode = s.mode := rfl
@[simp] theorem endFlash_mode (s : State) : (endFlash s).mode = s.mode := rfl
@[simp] theorem firstPhase_scrollActive (s : State) : (firstPhase s).scrollActive = s.scrollActive := rfl
@[simp] theorem endFlash_scrollActive (s : State) : (endFlash s).scrollActive = s.scrollActive := rfl
@[simp] theorem firstPhase_flashRate (s : State) : (firstPhase s).flashRate = s.flashRate := rfl
@[simp] theorem endFlash_flashRate (s : State) : (endFlash s).flashRate = s.flashRate := rfl
@[simp] theorem firstPhase_flashControl (s : State) : (firstPhase s).flashControl = s.flashControl := rfl
@[simp] theorem endFlash_flashControl (s : State) : (endFlash s).flashControl = s.flashControl := rfl
@[simp] theorem firstPhase_ugRemaining (s : State) : (firstPhase s).ugRemaining = s.ugRemaining := rfl
@[simp] theorem endFlash_ugRemaining (s : State) : (endFlash s).ugRemaining = s.ugRemaining := rfl
@[simp] theorem firstPhase_ugAcc (s : State) : (firstPhase s).ugAcc = s.ugAcc := rfl
@[simp] theorem endFlash_ugAcc (s : State) : (endFlash s).ugAcc = s.ugAcc := rfl
@[simp] theorem firstPhase_srCount (s : State) : (firstPhase s).srCount = s.srCount := rfl
@[simp] theorem endFlash_srCount (s : State) : (endFlash s).srCount = s.srCount := rfl
@[simp] theorem firstPhase_srAcc (s : State) : (firstPhase s).srAcc = s.srAcc := rfl
@[simp] theorem endFlash_srAcc (s : State) : (endFlash s).srAcc = s.srAcc := rfl
@[simp] theorem firstPhase_clkLevel (s : State) : (firstPhase s).clkLevel = s.clkLevel := rfl
@[simp] theorem endFlash_clkLevel (s : State) : (endFlash s).clkLevel = s.clkLevel := rfl
@[simp] theorem firstPhase_dataLevel (s : State) : (firstPhase s).dataLevel = s.dataLevel := rfl
@[simp] theorem endFlash_dataLevel (s : State) : (endFlash s).dataLevel = s.dataLevel := rfl
@[simp] theorem firstPhase_out (s : State) : (firstPhase s).out = s.out := rfl
@[simp] theorem endFlash_out (s : State) : (endFlash s).out = s.out := rfl
@[simp] theorem firstPhase_chip (s : State) : (firstPhase s).chip = s.chip := rfl
@[simp] theorem endFlash_chip (s : State) : (endFlash s).chip = s.chip := rfl
@[simp] theorem firstPhase_diags (s : State) : (firstPhase s).diags = s.diags := rfl
@[simp] theorem endFlash_diags (s : State) : (endFlash s).diags = s.diags := rfl
@[simp] theorem firstPhase_inputs (s : State) : (firstPhase s).inputs = s.inputs := rfl
@[simp] theorem endFlash_inputs (s : State) : (endFlash s).inputs = s.inputs := rfl

@[simp] theorem pat_firstPhase (s : State) (i : CellIx) : (firstPhase s).pat i = s.pat i :=
  s.pat_setAttrs (firstPhaseAttr s) i

@[simp] theorem attr_firstPhase (s : State) (i : CellIx) : (firstPhase s).attr i = firstPhaseAttr s i :=
  s.attr_setAttrs (firstPhaseAttr s) i

@[simp] theorem pat_endFlash (s : State) (i : CellIx) : (endFlash s).pat i = s.pat i :=
  s.pat_setAttrs (fun _ => .normal) i

@[simp] theorem attr_endFlash (s : State) (i : CellIx) : (endFlash s).attr i = .normal :=
  s.attr_setAttrs (fun _ => .normal) i

@[simp] theorem secondPhase_cursorPos (s : State) : (secondPhase s).cursorPos = s.cursorPos := by
  rcases secondPhase_cases s with ⟨_, h⟩ | ⟨_, h⟩ <;> exact (congrArg State.cursorPos h :)
@[simp] theorem secondPhase_pcursorPos (s : State) : (secondPhase s).pcursorPos = s.pcursorPos := by
  rcases secondPhase_cases s with ⟨_, h⟩ | ⟨_, h⟩ <;> exact (congrArg State.pcursorPos h :)
@[simp] theorem secondPhase_winStart (s : State) : (secondPhase s).winStart = s.winStart := by
  rcases secondPhase_cases s with ⟨_, h⟩ | ⟨_, h⟩ <;> exact (congrArg State.winStart h :)
@[simp] theorem secondPhase_winEnd (s : State) : (secondPhase s).winEnd = s.winEnd := by
  rcases secondPhase_cases s with ⟨_, h⟩ | ⟨_, h⟩ <;> exact (congrArg State.winEnd h :)
@[simp] theorem secondPhase_mode (s : State) : (secondPhase s).mode = s.mode := by
  rcases secondPhase_cases s with ⟨_, h⟩ | ⟨_, h⟩ <;> exact (congrArg State.mode h :)
@[simp] theorem secondPhase_scrollActive (s : State) : (secondPhase s).scrollActive = s.scrollActive := by
  rcases secondPhase_cases s with ⟨_, h⟩ | ⟨_, h⟩ <;> exact (congrArg State.scrollActive h :)
@[simp] theorem secondPhase_flashControl (s : State) : (secondPhase s).flashControl = s.flashControl := by
  rcases secondPhase_cases s with ⟨_, h⟩ | ⟨_, h⟩ <;> exact (congrArg State.flashControl h :)
@[simp] theorem secondPhase_ugRemaining (s : State) : (secondPhase s).ugRemaining = s.ugRemaining := by
  rcases secondPhase_cases s with ⟨_, h⟩ | ⟨_, h⟩ <;> exact (congrArg State.ugRemaining h :)
@[simp] theorem secondPhase_ugAcc (s : State) : (secondPhase s).ugAcc = s.ugAcc := by
  rcases secondPhase_cases s with ⟨_, h⟩ | ⟨_, h⟩ <;> exact (congrArg State.ugAcc h :)
@[simp] theorem secondPhase_srCount (s : State) : (secondPhase s).srCount = s.srCount := by
  rcases secondPhase_cases s with ⟨_, h⟩ | ⟨_, h⟩ <;> exact (congrArg State.srCount h :)
@[simp] theorem secondPhase_srAcc (s : State) : (secondPhase s).srAcc = s.srAcc := by
  rcases secondPhase_cases s with ⟨_, h⟩ | ⟨_, h⟩ <;> exact (congrArg State.srAcc h :)
@[simp] theorem secondPhase_clkLevel (s : State) : (secondPhase s).clkLevel = s.clkLevel := by
  rcases secondPhase_cases s with ⟨_, h⟩ | ⟨_, h⟩ <;> exact (congrArg State.clkLevel h :)
@[simp] theorem secondPhase_dataLevel (s : State) : (secondPhase s).dataLevel = s.dataLevel := by
  rcases secondPhase_cases s with ⟨_, h⟩ | ⟨_, h⟩ <;> exact (congrArg State.dataLevel h :)
@[simp] theorem secondPhase_out (s : State) : (secondPhase s).out = s.out := by
  rcases secondPhase_cases s with ⟨_, h⟩ | ⟨_, h⟩ <;> exact (congrArg State.out h :)
@[simp] theorem secondPhase_chip (s : State) : (secondPhase s).chip = s.chip := by
  rcases secondPhase_cases s with ⟨_, h⟩ | ⟨_, h⟩ <;> exact (congrArg State.chip h :)
@[simp] theorem secondPhase_diags (s : State) : (secondPhase s).diags = s.diags := by
  rcases secondPhase_cases s with ⟨_, h⟩ | ⟨_, h⟩ <;> exact (congrArg State.diags h :)
@[simp] theorem secondPhase_inputs (s : State) : (secondPhase s).inputs = s.inputs := by
  rcases secondPhase_cases s with ⟨_, h⟩ | ⟨_, h⟩ <;> exact (congrArg State.inputs h :)
@[simp] theorem pat_secondPhase (s : State) (i : CellIx) : (secondPhase s).pat i = s.pat i := by
  rcases secondPhase_cases s with ⟨_, h⟩ | ⟨_, h⟩ <;> rw [h]
  · rfl
  · rw [pat_endFlash]; rfl

@[simp] theorem flashStep_cursorPos (s : State) : (flashStep s).cursorPos = s.cursorPos := by
  rcases flashStep_cases s with ⟨_, h⟩ | ⟨_, h⟩ | ⟨_, _, h⟩ | ⟨_, _, h⟩ <;> rw [h] <;> simp
@[simp] theorem flashStep_pcursorPos (s : State) : (flashStep s).pcursorPos = s.pcursorPos := by
  rcases flashStep_cases s with ⟨_, h⟩ | ⟨_, h⟩ | ⟨_, _, h⟩ | ⟨_, _, h⟩ <;> rw [h] <;> simp
@[simp] theorem flashStep_winStart (s : State) : (flashStep s).winStart = s.winStart := by
  rcases flashStep_cases s with ⟨_, h⟩ | ⟨_, h⟩ | ⟨_, _, h⟩ | ⟨_, _, h⟩ <;> rw [h] <;> simp
@[simp] theorem flashStep_winEnd (s : State) : (flashStep s).winEnd = s.winEnd := by
  rcases flashStep_cases s with ⟨_, h⟩ | ⟨_, h⟩ | ⟨_, _, h⟩ | ⟨_, _, h⟩ <;> rw [h] <;> simp
@[simp] theorem flashStep_mode (s : State) : (flashStep s).mode = s.mode := by
  rcases flashStep_cases s with ⟨_, h⟩ | ⟨_, h⟩ | ⟨_, _, h⟩ | ⟨_, _, h⟩ <;> rw [h] <;> simp
@[simp] theorem flashStep_scrollActive (s : State) : (flashStep s).scrollActive = s.scrollActive := by
  rcases flashStep_cases s with ⟨_, h⟩ | ⟨_, h⟩ | ⟨_, _, h⟩ | ⟨_, _, h⟩ <;> rw [h] <;> simp
@[simp] theorem flashStep_flashControl (s : State) : (flashStep s).flashControl = s.flashControl := by
  rcases flashStep_cases s with ⟨_, h⟩ | ⟨_, h⟩ | ⟨_, _, h⟩ | ⟨_, _, h⟩ <;> rw [h] <;> simp
@[simp] theorem flashStep_ugRemaining (s : State) : (flashStep s).ugRemaining = s.ugRemaining := by
  rcases flashStep_cases s with ⟨_, h⟩ | ⟨_, h⟩ | ⟨_, _, h⟩ | ⟨_, _, h⟩ <;> rw [h] <;> simp
@[simp] theorem flashStep_ugAcc (s : State) : (flashStep s).ugAcc = s.ugAcc := by
  rcases flashStep_cases s with ⟨_, h⟩ | ⟨_, h⟩ | ⟨_, _, h⟩ | ⟨_, _, h⟩ <;> rw [h] <;> simp
@[simp] theorem flashStep_srCount (s : State) : (flashStep s).srCount = s.srCount := by
  rcases flashStep_cases s with ⟨_, h⟩ | ⟨_, h⟩ | ⟨_, _, h⟩ | ⟨_, _, h⟩ <;> rw [h] <;> simp
@[simp] theorem flashStep_srAcc (s : State) : (flashStep s).srAcc = s.srAcc := by
  rcases flashStep_cases s with ⟨_, h⟩ | ⟨_, h⟩ | ⟨_, _, h⟩ | ⟨_, _, h⟩ <;> rw [h] <;> simp
@[simp] theorem flashStep_clkLevel (s : State) : (flashStep s).clkLevel = s.clkLevel := by
  rcases flashStep_cases s with ⟨_, h⟩ | ⟨_, h⟩ | ⟨_, _, h⟩ | ⟨_, _, h⟩ <;> rw [h] <;> simp
@[simp] theorem flashStep_dataLevel (s : State) : (flashStep s).dataLevel = s.dataLevel := by
  rcases flashStep_cases s with ⟨_, h⟩ | ⟨_, h⟩ | ⟨_, _, h⟩ | ⟨_, _, h⟩ <;> rw [h] <;> simp
@[simp] theorem flashStep_out (s : State) : (flashStep s).out = s.out := by
  rcases flashStep_cases s with ⟨_, h⟩ | ⟨_, h⟩ | ⟨_, _, h⟩ | ⟨_, _, h⟩ <;> rw [h] <;> simp
@[simp] theorem flashStep_chip (s : State) : (flashStep s).chip = s.chip := by
  rcases flashStep_cases s with ⟨_, h⟩ | ⟨_, h⟩ | ⟨_, _, h⟩ | ⟨_, _, h⟩ <;> rw [h] <;> simp
@[simp] theorem flashStep_diags (s : State) : (flashStep s).diags = s.diags := by
  rcases flashStep_cases s with ⟨_, h⟩ | ⟨_, h⟩ | ⟨_, _, h⟩ | ⟨_, _, h⟩ <;> rw [h] <;> simp
@[simp] theorem flashStep_inputs (s : State) : (flashStep s).inputs = s.inputs := by
  rcases flashStep_cases s with ⟨_, h⟩ | ⟨_, h⟩ | ⟨_, _, h⟩ | ⟨_, _, h⟩ <;> rw [h] <;> simp

/-- The flash step writes no pattern (R79). -/
@[simp] theorem pat_flashStep (s : State) (i : CellIx) : (flashStep s).pat i = s.pat i := by
  rcases flashStep_cases s with ⟨_, h⟩ | ⟨_, h⟩ | ⟨_, _, h⟩ | ⟨_, _, h⟩ <;> rw [h]
  · rfl
  · rw [pat_firstPhase]; rfl
  · rw [pat_secondPhase]; rfl

/-- Unless the timer is about to expire, the flash step only counts. -/
theorem flashStep_of_ne_one {s : State} (h : s.flashTimer ≠ 1) :
    flashStep s = { s with flashTimer := s.flashTimer - 1 } := by
  rcases flashStep_cases s with ⟨h0, e⟩ | ⟨_, e⟩ | ⟨h1, _⟩ | ⟨h1, _⟩
  · rw [e]; cases s; simp_all
  · exact e
  · exact absurd h1 h
  · exact absurd h1 h

@[simp] theorem refresh_cursorPos (s : State) : (refresh s).cursorPos = s.cursorPos := by simp [refresh]
@[simp] theorem refresh_pcursorPos (s : State) : (refresh s).pcursorPos = s.pcursorPos := by simp [refresh]
@[simp] theorem refresh_winStart (s : State) : (refresh s).winStart = s.winStart := by simp [refresh]
@[simp] theorem refresh_winEnd (s : State) : (refresh s).winEnd = s.winEnd := by simp [refresh]
@[simp] theorem refresh_mode (s : State) : (refresh s).mode = s.mode := by simp [refresh]
@[simp] theorem refresh_scrollActive (s : State) : (refresh s).scrollActive = s.scrollActive := by simp [refresh]
@[simp] theorem refresh_flashControl (s : State) : (refresh s).flashControl = s.flashControl := by simp [refresh]
@[simp] theorem refresh_ugRemaining (s : State) : (refresh s).ugRemaining = s.ugRemaining := by simp [refresh]
@[simp] theorem refresh_ugAcc (s : State) : (refresh s).ugAcc = s.ugAcc := by simp [refresh]
@[simp] theorem refresh_srCount (s : State) : (refresh s).srCount = s.srCount := by simp [refresh]
@[simp] theorem refresh_srAcc (s : State) : (refresh s).srAcc = s.srAcc := by simp [refresh]
@[simp] theorem refresh_clkLevel (s : State) : (refresh s).clkLevel = s.clkLevel := by simp [refresh]
@[simp] theorem refresh_dataLevel (s : State) : (refresh s).dataLevel = s.dataLevel := by simp [refresh]
@[simp] theorem refresh_chip (s : State) : (refresh s).chip = s.chip := by simp [refresh]
@[simp] theorem refresh_diags (s : State) : (refresh s).diags = s.diags := by simp [refresh]
@[simp] theorem refresh_inputs (s : State) : (refresh s).inputs = s.inputs := by simp [refresh]
theorem refresh_flashTimer (s : State) : (refresh s).flashTimer = (flashStep s).flashTimer := rfl
theorem refresh_flashing (s : State) : (refresh s).flashing = (flashStep s).flashing := rfl
theorem refresh_flashRate (s : State) : (refresh s).flashRate = (flashStep s).flashRate := rfl
theorem refresh_cells (s : State) : (refresh s).cells = (flashStep s).cells := rfl

theorem cell_refresh (s : State) (i : CellIx) : (refresh s).cell i = (flashStep s).cell i := rfl

theorem attr_refresh (s : State) (i : CellIx) : (refresh s).attr i = (flashStep s).attr i := rfl

/-- A refresh writes no pattern (R79). -/
@[simp] theorem pat_refresh (s : State) (i : CellIx) : (refresh s).pat i = s.pat i := pat_flashStep s i

/-- After a refresh every sink shows what its cell then is (R250, R252). -/
theorem sink_refresh (s : State) (i : CellIx) : (refresh s).sink i = (refresh s).visible i := by
  show (render (flashStep s)).sink i = _
  rw [sink_render]; rfl

/-- Unless the timer is about to expire, a refresh counts and renders (R242, R250). -/
theorem refresh_of_ne_one {s : State} (h : s.flashTimer ≠ 1) :
    refresh s = render { s with flashTimer := s.flashTimer - 1 } := by
  rw [refresh, flashStep_of_ne_one h]

/-- Unless the timer expires, a refresh leaves the attributes as they were (R242). -/
theorem attr_refresh_of_ne_one {s : State} (h : s.flashTimer ≠ 1) (i : CellIx) : (refresh s).attr i = s.attr i := by
  rw [refresh_of_ne_one h]; rfl

/-- A refresh changes the rate only when the timer expires in the second phase (R248). -/
theorem expires_of_rate_ne {s : State} (h : (refresh s).flashRate ≠ s.flashRate) :
    s.flashTimer = 1 ∧ s.flashing = true := by
  rw [refresh_flashRate] at h
  rcases flashStep_cases s with ⟨_, e⟩ | ⟨_, e⟩ | ⟨_, _, e⟩ | ⟨h1, h2, _⟩
  · rw [e] at h; exact absurd rfl h
  · rw [e] at h; exact absurd rfl h
  · rw [e] at h; exact absurd rfl h
  · exact ⟨h1, h2⟩

/-- A refresh changes `flashing` only when the timer expires (R243, R249). -/
theorem expires_of_flashing_ne {s : State} (h : (refresh s).flashing ≠ s.flashing) : s.flashTimer = 1 := by
  by_contra h1
  rw [refresh_of_ne_one h1] at h
  exact h rfl

/-- A refresh keeps the timer in its range when the second-phase reload is in it (R43, R50). -/
theorem flashTimer_refresh_le {s : State} (h : s.flashTimer ≤ 20) (hb : s.chip.flashBReload ≤ 20) :
    (refresh s).flashTimer ≤ 20 := by
  rw [refresh_flashTimer]
  rcases flashStep_cases s with ⟨_, e⟩ | ⟨_, e⟩ | ⟨_, _, e⟩ | ⟨_, _, e⟩ <;> rw [e]
  · exact h
  · simp; omega
  · simp [firstPhase, Config.flashReload]
  · rcases secondPhase_cases { s with flashTimer := 0 } with ⟨_, e⟩ | ⟨_, e⟩ <;> rw [e]
    · exact hb
    · simp [endFlash]

end Sys2Proof.Machine
end

