-- ==== Sys2Proof/Laws/PerInstr.lean ====
section
/-! SUPPORT. Statements made of every instruction as syntax, one lemma per constructor. The family TableRow holds
the encoder against the opcode table's mask and match columns. -/

namespace Sys2Proof.Laws.TableRow

/-- The byte of the form, under the row's mask, is the row's match value (`spec/opcode_table.json`; R105, R107): a
parameter code's value for an in-band row, and for UGDATA, whose mask is 0, nothing is asked. -/
def Statement (i : Instr) : Prop :=
  ∀ c : Chip,
    match i with
    | .ugdata _ => encode c i &&& 0x00#8 = 0x00#8
    | .fmark => encode c i &&& 0xFF#8 = c.flashMarkCode.setWidth 8
    | .undef => encode c i &&& 0xFF#8 = c.undefinedCode.setWidth 8
    | .dpt => encode c i &&& 0xFF#8 = c.dpCode.setWidth 8
    | .semi => encode c i &&& 0xFF#8 = c.semiCode.setWidth 8
    | .ugtrig => encode c i &&& 0xFF#8 = c.glyphTriggerCode.setWidth 8
    | .dummy => encode c i &&& 0xFF#8 = c.dummyCode.setWidth 8
    | .chr _ => encode c i &&& 0xC0#8 = 0x00#8
    | .chrx _ => encode c i &&& 0xC0#8 = 0x40#8
    | .blnkAll _ => encode c i &&& 0xF3#8 = 0x80#8
    | .blnkWin _ => encode c i &&& 0xF3#8 = 0x81#8
    | .blnkOut _ => encode c i &&& 0xF3#8 = 0x82#8
    | .blnkOff _ => encode c i &&& 0xF3#8 = 0x83#8
    | .setcur _ => encode c i &&& 0xF0#8 = 0x90#8
    | .modeRl _ => encode c i &&& 0xF3#8 = 0xA0#8
    | .modeRr _ => encode c i &&& 0xF3#8 = 0xA1#8
    | .modeSl _ => encode c i &&& 0xF3#8 = 0xA2#8
    | .modeSr _ => encode c i &&& 0xF3#8 = 0xA3#8
    | .clrNop _ => encode c i &&& 0xF3#8 = 0xB0#8
    | .clrWin _ => encode c i &&& 0xF3#8 = 0xB1#8
    | .clrOut _ => encode c i &&& 0xF3#8 = 0xB2#8
    | .clrAll _ => encode c i &&& 0xF3#8 = 0xB3#8
    | .frate _ => encode c i &&& 0xF0#8 = 0xC0#8
    | .fctlNone _ => encode c i &&& 0xF3#8 = 0xD0#8
    | .fctlIn _ => encode c i &&& 0xF3#8 = 0xD1#8
    | .fctlOut _ => encode c i &&& 0xF3#8 = 0xD2#8
    | .fctlAll _ => encode c i &&& 0xF3#8 = 0xD3#8
    | .wstart _ => encode c i &&& 0xF0#8 = 0xE0#8
    | .wend _ => encode c i &&& 0xF0#8 = 0xF0#8

/-- An in-band code as a byte, under the full mask. -/
theorem codeByte_masked (k : CharIx) : (0b00#2 ++ k : Byte) &&& 0xFF#8 = k.setWidth 8 := by revert k; decide

theorem ugdata (d : Byte) : Statement (.ugdata d) := by
  intro c; simp [encode]

theorem fmark : Statement .fmark := fun c => codeByte_masked c.flashMarkCode
theorem undef : Statement .undef := fun c => codeByte_masked c.undefinedCode
theorem dpt : Statement .dpt := fun c => codeByte_masked c.dpCode
theorem semi : Statement .semi := fun c => codeByte_masked c.semiCode
theorem ugtrig : Statement .ugtrig := fun c => codeByte_masked c.glyphTriggerCode
theorem dummy : Statement .dummy := fun c => codeByte_masked c.dummyCode

theorem chr (k : CharIx) : Statement (.chr k) := by intro c; simp only [encode]; revert k; decide
theorem chrx (k : CharIx) : Statement (.chrx k) := by intro c; simp only [encode]; revert k; decide
theorem blnkAll (x : Unused) : Statement (.blnkAll x) := by intro c; simp only [encode]; revert x; decide
theorem blnkWin (x : Unused) : Statement (.blnkWin x) := by intro c; simp only [encode]; revert x; decide
theorem blnkOut (x : Unused) : Statement (.blnkOut x) := by intro c; simp only [encode]; revert x; decide
theorem blnkOff (x : Unused) : Statement (.blnkOff x) := by intro c; simp only [encode]; revert x; decide
theorem setcur (n : Nibble) : Statement (.setcur n) := by intro c; simp only [encode]; revert n; decide
theorem modeRl (x : Unused) : Statement (.modeRl x) := by intro c; simp only [encode]; revert x; decide
theorem modeRr (x : Unused) : Statement (.modeRr x) := by intro c; simp only [encode]; revert x; decide
theorem modeSl (x : Unused) : Statement (.modeSl x) := by intro c; simp only [encode]; revert x; decide
theorem modeSr (x : Unused) : Statement (.modeSr x) := by intro c; simp only [encode]; revert x; decide
theorem clrNop (x : Unused) : Statement (.clrNop x) := by intro c; simp only [encode]; revert x; decide
theorem clrWin (x : Unused) : Statement (.clrWin x) := by intro c; simp only [encode]; revert x; decide
theorem clrOut (x : Unused) : Statement (.clrOut x) := by intro c; simp only [encode]; revert x; decide
theorem clrAll (x : Unused) : Statement (.clrAll x) := by intro c; simp only [encode]; revert x; decide
theorem frate (n : Nibble) : Statement (.frate n) := by intro c; simp only [encode]; revert n; decide
theorem fctlNone (x : Unused) : Statement (.fctlNone x) := by intro c; simp only [encode]; revert x; decide
theorem fctlIn (x : Unused) : Statement (.fctlIn x) := by intro c; simp only [encode]; revert x; decide
theorem fctlOut (x : Unused) : Statement (.fctlOut x) := by intro c; simp only [encode]; revert x; decide
theorem fctlAll (x : Unused) : Statement (.fctlAll x) := by intro c; simp only [encode]; revert x; decide
theorem wstart (n : Nibble) : Statement (.wstart n) := by intro c; simp only [encode]; revert n; decide
theorem wend (n : Nibble) : Statement (.wend n) := by intro c; simp only [encode]; revert n; decide

end Sys2Proof.Laws.TableRow
end

