-- ==== Sys2Proof/Laws/Step.lean ====
section
/-! SUPPORT. What executing an instruction, submitting a byte and taking a step can do, each said once. -/

namespace Sys2Proof.Machine

/-- A glyph data byte with `n + 1` bytes pending (R151, R152). -/
theorem execUgdata_pos {s : State} {n : Nat} (h : s.ugRemaining = n + 1) (d : Byte) :
    execUgdata d s = endByte
      (if n = 0 then setdata (glyphShift s.ugAcc d) d { s with ugRemaining := n, ugAcc := glyphShift s.ugAcc d }
       else { s with ugRemaining := n, ugAcc := glyphShift s.ugAcc d }) := by
  unfold execUgdata; rw [h]

/-- UGDATA with no load pending (log 6). -/
theorem execUgdata_zero {s : State} (h : s.ugRemaining = 0) (d : Byte) :
    execUgdata d s = .refused .noGlyphLoadPending := by
  unfold execUgdata; rw [h]

/-- The write path keeps the pending count in its range (R50). -/
theorem setdata_ugRemaining_le (g : Word) (op : Byte) (s : State) (h : s.ugRemaining ≤ 2) :
    (setdata g op s).ugRemaining ≤ 2 := by
  rcases setdata_cases g op s with e | e | e | e | e | e <;> rw [e] <;> simp [glyphTriggerArm, h, Config.ugBytes]

/-- What no instruction writes before its closing refresh: the receiver, the lines, the sinks, the parameters and
the events to come. -/
structure InstrKeeps (s u : State) : Prop where
  srCount : u.srCount = s.srCount
  srAcc : u.srAcc = s.srAcc
  clkLevel : u.clkLevel = s.clkLevel
  dataLevel : u.dataLevel = s.dataLevel
  out : u.out = s.out
  chip : u.chip = s.chip
  inputs : u.inputs = s.inputs

/-- Everything `exec` can answer: a next state that closes with a refresh, or the one refusal of a glyph data
byte with no load pending. -/
theorem exec_cases (i : Instr) (s : State) :
    (∃ u, exec i s = .next (refresh u) ∧ InstrKeeps s u ∧ (u.flashTimer = s.flashTimer ∨ u.flashTimer = 20)
      ∧ (s.ugRemaining ≤ 2 → u.ugRemaining ≤ 2)
      ∧ ∃ l : List Diag, u.diags = s.diags ++ l ∧ l.length ≤ 1)
    ∨ (i.isGlyphData = true ∧ s.ugRemaining = 0 ∧ exec i s = .refused .noGlyphLoadPending) := by
  have hn : ∀ b, ∃ l : List Diag, (noteCharacter b s).diags = s.diags ++ l ∧ l.length ≤ 1 := by
    intro b; unfold noteCharacter; split
    · exact ⟨_, rfl, by simp⟩
    · exact ⟨[], by simp⟩
  have h0 : ∃ l : List Diag, s.diags = s.diags ++ l ∧ l.length ≤ 1 := ⟨[], by simp⟩
  cases i with
  | ugdata d =>
    rcases h : s.ugRemaining with _ | n
    · exact .inr ⟨rfl, rfl, execUgdata_zero h d⟩
    · left
      refine ⟨_, execUgdata_pos h d, ?_⟩
      split
      · refine ⟨⟨by simp, by simp, by simp, by simp, by simp, by simp, by simp⟩, by simp, fun h2 => ?_, by simp⟩
        exact setdata_ugRemaining_le _ _ _ (by simp; omega)
      · exact ⟨⟨rfl, rfl, rfl, rfl, rfl, rfl, rfl⟩, .inl rfl, fun h2 => by simp; omega, h0⟩
  | fmark | undef | dpt | semi | dummy | chr k | chrx k | ugtrig =>
    left
    refine ⟨_, rfl, ⟨?_, ?_, ?_, ?_, ?_, ?_, ?_⟩, ?_, ?_, ?_⟩ <;>
      simp [dummyArm, normalArm, glyphTriggerArm, Config.ugBytes, hn]
  | blnkAll x =>
    left
    refine ⟨_, rfl, ?_⟩
    by_cases hx : x = 1#2 <;> simp only [hx, if_true, if_false] <;>
      exact ⟨⟨rfl, rfl, rfl, rfl, rfl, rfl, rfl⟩, .inl rfl, id, by simp⟩
  | blnkWin x | blnkOut x | clrWin x | clrOut x =>
    left
    refine ⟨_, rfl, ?_⟩
    unfold ifWindowValid
    split <;> exact ⟨⟨rfl, rfl, rfl, rfl, rfl, rfl, rfl⟩, .inl rfl, id, h0⟩
  | frate n =>
    left
    refine ⟨_, rfl, ?_⟩
    by_cases hx : n = 0#4 <;> exact ⟨⟨by simp [hx], by simp [hx], by simp [hx], by simp [hx], by simp [hx], by simp [hx], by simp [hx]⟩, .inr rfl, by simp [hx], by simp [hx]⟩
  | fctlNone x =>
    left
    refine ⟨_, rfl, ⟨?_, ?_, ?_, ?_, ?_, ?_, ?_⟩, ?_, ?_, ?_⟩ <;> simp
  | _ x => exact .inl ⟨_, rfl, ⟨rfl, rfl, rfl, rfl, rfl, rfl, rfl⟩, .inl rfl, id, h0⟩

/-- Which control field each form may write before its closing refresh (R34 to R47). -/
structure WritesOnly (i : Instr) (s u : State) : Prop where
  cursorPos : u.cursorPos = s.cursorPos ∨ (∃ n, i = .setcur n) ∨ (∃ n, i = .wend n) ∨ mayMove i
  pcursorPos : u.pcursorPos = s.pcursorPos ∨ mayMove i
  winStart : u.winStart = s.winStart ∨ ∃ n, i = .wstart n
  winEnd : u.winEnd = s.winEnd ∨ ∃ n, i = .wend n
  mode : u.mode = s.mode ∨ ∃ x, i = .modeRl x ∨ i = .modeRr x ∨ i = .modeSl x ∨ i = .modeSr x
  scrollActive : u.scrollActive = s.scrollActive ∨ (∃ n, i = .setcur n) ∨ (∃ n, i = .wend n) ∨ mayMove i
  flashControl : u.flashControl = s.flashControl
    ∨ ∃ x, i = .fctlNone x ∨ i = .fctlIn x ∨ i = .fctlOut x ∨ i = .fctlAll x
  flashRate : u.flashRate = s.flashRate ∨ ∃ n, i = .frate n
  flashing : u.flashing = s.flashing ∨ (u.flashing = false ∧ ((∃ n, i = .frate n) ∨ ∃ x, i = .fctlNone x))
  flashTimer : u.flashTimer = s.flashTimer ∨ ∃ n, i = .frate n
  flashLoad : ∀ n, i = .frate n → u.flashTimer = 20
  ugRemaining : u.ugRemaining = s.ugRemaining ∨ i = .ugtrig ∨ ∃ d, i = .ugdata d
  ugAcc : u.ugAcc = s.ugAcc ∨ ∃ d, i = .ugdata d
  patterns : (∀ j, u.pat j = s.pat j) ∨ ¬ storesNoPattern i
  attrs : (∀ j, u.attr j = s.attr j) ∨ ¬ storesNoAttr i

/-- A character byte's notice changes no attribute (R320). -/
theorem noteCharacter_attr (b : Byte) (s : State) (j : CellIx) : (noteCharacter b s).attr j = s.attr j := by
  unfold State.attr State.cell; simp

/-- An instruction that goes on writes only what its form may, then refreshes. -/
theorem exec_writesOnly {i : Instr} {s u : State} (h : exec i s = .next (refresh u)) :
    ∃ v, exec i s = .next (refresh v) ∧ WritesOnly i s v := by
  cases i with
  | ugdata d =>
    rcases hn : s.ugRemaining with _ | n
    · simp [exec, execUgdata_zero hn] at h
    · refine ⟨_, execUgdata_pos hn d, ?_⟩
      by_cases h0 : n = 0 <;>
      exact ⟨.inr (.inr (.inr trivial)), .inr trivial, .inl (by simp [h0]), .inl (by simp [h0]), .inl (by simp [h0]),
        .inr (.inr (.inr trivial)), .inl (by simp [h0]), .inl (by simp [h0]), .inl (by simp [h0]), .inl (by simp [h0]), (fun _ h => by cases h), .inr (.inr ⟨_, rfl⟩), .inr ⟨_, rfl⟩, .inr id, .inr id⟩
  | fmark | dpt | semi | dummy | chr k | chrx k =>
    exact ⟨_, rfl, .inr (.inr (.inr trivial)), .inr trivial, .inl (by simp [dummyArm, normalArm]), .inl (by simp [dummyArm, normalArm]), .inl (by simp [dummyArm, normalArm]),
        .inr (.inr (.inr trivial)), .inl (by simp [dummyArm, normalArm]), .inl (by simp [dummyArm, normalArm]), .inl (by simp [dummyArm, normalArm]), .inl (by simp [dummyArm, normalArm]), (fun _ h => by cases h), .inl (by simp [dummyArm, normalArm]), .inl (by simp [dummyArm, normalArm]), .inr id, .inr id⟩
  | undef | ugtrig =>
    refine ⟨_, rfl, .inl ?_, .inl ?_, .inl ?_, .inl ?_, .inl ?_, .inl ?_, .inl ?_, .inl ?_, .inl ?_, .inl ?_, (fun _ h => by cases h), ?_, .inl ?_, .inl fun j => ?_, .inl fun j => ?_⟩ <;> 
      simp [glyphTriggerArm, State.pat, State.attr, State.cell]
  | blnkAll x =>
    refine ⟨_, rfl, ?_⟩
    by_cases hx : x = 1#2 <;> simp only [hx, if_true, if_false] <;>
      exact ⟨.inl rfl, .inl rfl, .inl rfl, .inl rfl, .inl rfl, .inl rfl, .inl rfl, .inl rfl, .inl rfl, .inl rfl, (fun _ h => by cases h), .inl rfl, .inl rfl, 
        .inl (fun j => (State.pat_setAttrsOn _ _ _ j).trans rfl), .inr id⟩
  | blnkWin x | blnkOut x | blnkOff x =>
    refine ⟨_, rfl, ?_⟩
    (try unfold ifWindowValid)
    (try split) <;> exact ⟨.inl rfl, .inl rfl, .inl rfl, .inl rfl, .inl rfl, .inl rfl, .inl rfl, .inl rfl, .inl rfl, .inl rfl, (fun _ h => by cases h), .inl rfl, .inl rfl, 
        .inl (by simp), .inr id⟩
  | clrWin x | clrOut x | clrAll x =>
    refine ⟨_, rfl, ?_⟩
    (try unfold ifWindowValid)
    (try split) <;> exact ⟨.inl rfl, .inl rfl, .inl rfl, .inl rfl, .inl rfl, .inl rfl, .inl rfl, .inl rfl, .inl rfl, .inl rfl, (fun _ h => by cases h), .inl rfl, .inl rfl, 
        .inr id, .inr id⟩
  | frate n =>
    refine ⟨_, rfl, ?_⟩
    by_cases hx : n = 0#4 <;>  constructor <;> simp [hx, State.pat, State.attr, State.cell, Config.flashReload]
  | _ x =>
    refine ⟨_, rfl, ?_⟩
    constructor <;> first | exact .inl rfl | exact .inl (fun _ => rfl) | simp [State.pat, State.attr, State.cell]
/-- A submitted byte always goes on: its form is UGDATA only while a load is pending (R101, R322). -/
theorem submit_cases (b : Byte) (s : State) :
    ∃ u, submit b s = .next (refresh u) ∧ InstrKeeps s u ∧ (u.flashTimer = s.flashTimer ∨ u.flashTimer = 20)
      ∧ (s.ugRemaining ≤ 2 → u.ugRemaining ≤ 2) ∧ ∃ l : List Diag, u.diags = s.diags ++ l ∧ l.length ≤ 1 := by
  rcases exec_cases (decodeByte s.chip s.ugRemaining b) s with h | ⟨hg, h0, _⟩
  · exact h
  · have := (decodeByte_isGlyphData s.chip s.ugRemaining b).1 hg
    omega

/-- With no event to come the block waits (log 1). -/
theorem step_nil {s : State} (h : s.inputs = []) : step s = .next s := by simp [step, h]

/-- A step runs the next event to completion. -/
theorem step_cons {s : State} {e : Event} {rest : List Event} (h : s.inputs = e :: rest) :
    step s = handle e { s with inputs := rest } := by simp [step, h]

/-- A clock call that samples nothing (R131, R134, R135). -/
theorem clock_idle {s : State} {level : Bool} (h : samples level s = false) :
    clock level s = .next (endClock level s) := by simp [clock, h]

/-- A clock call that samples a bit short of the eighth (R132). -/
theorem clock_bit {s : State} {level : Bool} (h : samples level s = true) (h8 : s.srCount + 1 ≠ 8) :
    clock level s = .next (endClock level (sampleBit s)) := by
  have : (sampleBit s).srCount ≠ 8 := h8
  simp [clock, h, this]

/-- The clock call of the eighth bit (R133). -/
theorem clock_byte {s u : State} {level : Bool} (h : samples level s = true) (h8 : s.srCount + 1 = 8)
    (hu : submit (sampleBit s).srAcc (sampleBit s) = .next u) :
    clock level s = .next (endClock level (clearReceiver u)) := by
  have : (sampleBit s).srCount = 8 := h8
  simp [clock, h, this, hu, thenNext]

/-- Everything a clock call can answer: never a stop. -/
theorem clock_cases (level : Bool) (s : State) :
    (samples level s = false ∧ clock level s = .next (endClock level s))
    ∨ (samples level s = true ∧ s.srCount + 1 ≠ 8 ∧ clock level s = .next (endClock level (sampleBit s)))
    ∨ (samples level s = true ∧ s.srCount + 1 = 8
      ∧ ∃ u, submit (sampleBit s).srAcc (sampleBit s) = .next u
        ∧ clock level s = .next (endClock level (clearReceiver u))) := by
  cases h : samples level s
  · exact .inl ⟨rfl, clock_idle h⟩
  · by_cases h8 : s.srCount + 1 = 8
    · obtain ⟨u, hu, _⟩ := submit_cases (sampleBit s).srAcc (sampleBit s)
      exact .inr (.inr ⟨rfl, h8, _, hu, clock_byte h h8 hu⟩)
    · exact .inr (.inl ⟨rfl, h8, clock_bit h h8⟩)

/-- The flash controller and the render neither read nor write the receiver, the lines, the events to come or the
diagnostic stream: a refresh commutes with any change of them. -/
theorem refresh_receiver (s : State) (acc : Byte) (n : Nat) (c d : Bool) (ins : List Event) (dg : List Diag) :
    refresh { s with srAcc := acc, srCount := n, clkLevel := c, dataLevel := d, inputs := ins, diags := dg }
      = { refresh s with
          srAcc := acc, srCount := n, clkLevel := c, dataLevel := d, inputs := ins, diags := dg } := by
  obtain ⟨cells, cp, pp, ws, we, md, sa, fr, fc, ft, fl, ug, ua, sc, sr, ck, dl, out, ch, dia, inp⟩ := s
  simp only [refresh, flashStep, secondPhase]
  split_ifs <;> rfl

/-- The flash step does not touch the sinks (R48). -/
theorem flashStep_withSinks (s : State) (o : Vector Word 16) :
    flashStep (s.withSinks o) = (flashStep s).withSinks o := by
  have push : ∀ (p : Prop) [Decidable p] (a b : State),
      (if p then a else b).withSinks o = if p then a.withSinks o else b.withSinks o := by
    intro p _ a b; split <;> rfl
  simp only [flashStep, secondPhase, push]
  rfl

/-- A refresh does not read the sinks it overwrites (R48). -/
theorem refresh_withSinks (s : State) (o : Vector Word 16) : refresh (s.withSinks o) = refresh s := by
  rw [refresh, flashStep_withSinks]; rfl

end Sys2Proof.Machine
end

