-- ==== Sys2Proof/Tests/Slice0.lean ====
section
/-! SUPPORT. The model's own tests. A test's expected result is a vector of `spec/95_test_vectors.md` (its id stands
in the docstring) or is worked out by hand from the rule named there. The parameters are ONE instance for
experiments, as `93_implementation_defined.md` G2 allows: its recalled codes, the PERM of vectors H4 and H5, and
a made-up charset; nothing is claimed of the chip by them. -/

namespace Sys2Proof.Tests

open Sys2Proof.Machine

/-! ### One instance of the parameters, small states -/

/-- CHARSET `k` is 0x0100 + k, and 0x3F is the one placeholder. -/
def demoChip : Chip where
  charset          := Vector.ofFn fun k => BitVec.ofNat 16 (0x0100 + k.val)
  placeholder      := Vector.ofFn fun k => k.val == 0x3F
  perm             := Vector.ofFn fun j => 15 - j
  flashMarkCode    := 0x25#6
  undefinedCode    := 0x26#6
  dpCode           := 0x2E#6
  semiCode         := 0x2C#6
  glyphTriggerCode := 0x3A#6
  dummyCode        := 0x3B#6
  flashMarkBit     := 15
  dpBit            := 14
  flashBReload     := 20
  low              := false

/-- The state after reset with the demonstration parameters. -/
def demo : State := { State.reset with chip := demoChip }

/-- Every cell holds `p i` with attribute `a i`. -/
def filled (p : CellIx → Word) (a : CellIx → Attr) : Vector Cell 16 :=
  tabulate fun i => { pattern := p i, attr := a i }

/-- A field of the next state, if there is one. -/
def field {α : Type} (r : Result) (f : State → α) : Option α :=
  match r with
  | .next s    => some (f s)
  | .fault _   => none
  | .refused _ => none

/-- The numbers of the cells with attribute `a`. -/
def cellsWith (a : Attr) (s : State) : List Nat := (bitPositions.filter fun i => s.attr i == a).map Fin.val

/-! ### Well-formedness: one ill-formed term for each check -/

theorem wf_demo_chip : demoChip.wf := by decide
theorem wf_chip_refuses_perm_not_bijective :
    ¬ Chip.wf { demoChip with perm := Vector.replicate 16 0 } := by decide
theorem wf_chip_refuses_long_reload : ¬ Chip.wf { demoChip with flashBReload := 21 } := by decide
theorem wf_refuses_undef : Instr.undef.wf { demoChip with undefinedCode := 0x25#6 } = false := by decide
theorem wf_refuses_dpt : Instr.dpt.wf { demoChip with dpCode := 0x26#6 } = false := by decide
theorem wf_refuses_semi : Instr.semi.wf { demoChip with semiCode := 0x2E#6 } = false := by decide
theorem wf_refuses_ugtrig : Instr.ugtrig.wf { demoChip with glyphTriggerCode := 0x2C#6 } = false := by decide
theorem wf_refuses_dummy : Instr.dummy.wf { demoChip with dummyCode := 0x3A#6 } = false := by decide
theorem wf_refuses_chr_of_a_code : (Instr.chr 0x3B#6).wf demoChip = false := by decide
theorem wf_accepts_the_others :
    (Instr.chr 0x01#6).wf demoChip = true ∧ Instr.fmark.wf demoChip = true ∧ Instr.dummy.wf demoChip = true := by
  decide

/-! ### Decoding: a byte written out from the encoding column of `spec/opcode_table.json`, for every form -/

theorem decode_ugdata : decodeByte demoChip 2 0b10101011#8 = .ugdata 0b10101011#8 := by decide
theorem decode_fmark : decodeByte demoChip 0 0b00100101#8 = .fmark := by decide
theorem decode_undef : decodeByte demoChip 0 0b00100110#8 = .undef := by decide
theorem decode_dpt : decodeByte demoChip 0 0b00101110#8 = .dpt := by decide
theorem decode_semi : decodeByte demoChip 0 0b00101100#8 = .semi := by decide
theorem decode_ugtrig : decodeByte demoChip 0 0b00111010#8 = .ugtrig := by decide
theorem decode_dummy : decodeByte demoChip 0 0b00111011#8 = .dummy := by decide
theorem decode_chr : decodeByte demoChip 0 0b00010011#8 = .chr 0b010011#6 := by decide
theorem decode_chrx : decodeByte demoChip 0 0b01100101#8 = .chrx 0b100101#6 := by decide
theorem decode_blnkAll : decodeByte demoChip 0 0b10000100#8 = .blnkAll 0b01#2 := by decide
theorem decode_blnkWin : decodeByte demoChip 0 0b10001001#8 = .blnkWin 0b10#2 := by decide
theorem decode_blnkOut : decodeByte demoChip 0 0b10001110#8 = .blnkOut 0b11#2 := by decide
theorem decode_blnkOff : decodeByte demoChip 0 0b10000011#8 = .blnkOff 0b00#2 := by decide
theorem decode_setcur : decodeByte demoChip 0 0b10011010#8 = .setcur 0b1010#4 := by decide
theorem decode_modeRl : decodeByte demoChip 0 0b10100100#8 = .modeRl 0b01#2 := by decide
theorem decode_modeRr : decodeByte demoChip 0 0b10101001#8 = .modeRr 0b10#2 := by decide
theorem decode_modeSl : decodeByte demoChip 0 0b10101110#8 = .modeSl 0b11#2 := by decide
theorem decode_modeSr : decodeByte demoChip 0 0b10100011#8 = .modeSr 0b00#2 := by decide
theorem decode_clrNop : decodeByte demoChip 0 0b10110100#8 = .clrNop 0b01#2 := by decide
theorem decode_clrWin : decodeByte demoChip 0 0b10111001#8 = .clrWin 0b10#2 := by decide
theorem decode_clrOut : decodeByte demoChip 0 0b10111110#8 = .clrOut 0b11#2 := by decide
theorem decode_clrAll : decodeByte demoChip 0 0b10110011#8 = .clrAll 0b00#2 := by decide
theorem decode_frate : decodeByte demoChip 0 0b11000101#8 = .frate 0b0101#4 := by decide
theorem decode_fctlNone : decodeByte demoChip 0 0b11010100#8 = .fctlNone 0b01#2 := by decide
theorem decode_fctlIn : decodeByte demoChip 0 0b11011001#8 = .fctlIn 0b10#2 := by decide
theorem decode_fctlOut : decodeByte demoChip 0 0b11011110#8 = .fctlOut 0b11#2 := by decide
theorem decode_fctlAll : decodeByte demoChip 0 0b11010011#8 = .fctlAll 0b00#2 := by decide
theorem decode_wstart : decodeByte demoChip 0 0b11100110#8 = .wstart 0b0110#4 := by decide
theorem decode_wend : decodeByte demoChip 0 0b11111001#8 = .wend 0b1001#4 := by decide
/-- D12: two equal codes, the flash-mark test comes first. -/
theorem decode_equal_codes : decodeByte { demoChip with dpCode := 0x25#6 } 0 0x25#8 = .fmark := by decide
theorem decode_nothing : decode demoChip 0 [] = .error .noByte := by rfl
theorem decode_takes_one_byte : decode demoChip 0 [0x93#8, 0x94#8] = .ok (.setcur 3#4, [0x94#8]) := by rfl
theorem decode_table_word : decodeTableWord 8 0xF5 = some (.wend 5#4) := by decide
theorem decode_table_word_of_other_width : decodeTableWord 16 0xF5 = none := by decide

/-! ### One step of each instruction -/

/-- B1. -/
theorem test_ugdata_first : field (exec (.ugdata 0xAB#8) { demo with ugRemaining := 2, ugAcc := 0x1234#16 })
    (fun s => (s.ugRemaining, s.ugAcc, s.pat 0, s.cursorPos)) = some (1, 0x34AB#16, 0#16, 0#4) := by decide
/-- B4: the last data byte is an in-band code, so it points cell 0 and the glyph is not written. -/
theorem test_ugdata_ends_in_code : field (exec (.ugdata 0x2E#8) { demo with ugRemaining := 1, ugAcc := 0x0012#16 })
    (fun s => (s.ugRemaining, s.ugAcc, s.pat 0, s.cursorPos)) = some (0, 0x122E#16, 0x4000#16, 0#4) := by decide
/-- D1, on cell 3. -/
theorem test_fmark_marks : field (exec .fmark { demo with pcursorPos := 3#4, cursorPos := 8#4 })
    (fun s => (s.pat 3, s.attr 3, s.sink 3, s.cursorPos)) = some (0x8000#16, .flash, 0#16, 8#4) := by decide
/-- D2. -/
theorem test_fmark_moves : field (exec .fmark
      { demo with pcursorPos := 3#4, cursorPos := 8#4, cells := filled (fun _ => 0x8001#16) (fun _ => .normal) })
    (fun s => (s.pat 8, s.pcursorPos, s.cursorPos)) = some (0x8001#16, 8#4, 9#4) := by decide
/-- D3. -/
theorem test_undef_changes_nothing : field (exec .undef demo) id = some demo := by decide
/-- D4. -/
theorem test_dpt_points : field (exec .dpt { demo with cursorPos := 1#4 })
    (fun s => (s.pat 0, s.attr 0, s.cursorPos)) = some (0x4000#16, .normal, 1#4) := by decide
/-- D5, the second DPT. -/
theorem test_dpt_moves : field (exec .dpt
      { demo with cursorPos := 1#4, cells := filled (fun i => if i = 0 then 0x4000#16 else 0#16) (fun _ => .normal) })
    (fun s => (s.pat 1, s.pcursorPos, s.cursorPos)) = some (0#16, 1#4, 2#4) := by decide
/-- D6. -/
theorem test_semi_moves : field (exec .semi { demo with
        pcursorPos := 2#4, cursorPos := 3#4
        cells := filled (fun i => if i = 2 then 0x4000#16 else 0#16) (fun _ => .normal) })
    (fun s => (s.pat 2, s.pat 3, s.pcursorPos, s.cursorPos)) = some (0x4000#16, 0#16, 3#4, 4#4) := by decide
/-- D7. -/
theorem test_ugtrig_loads : field (exec .ugtrig { demo with ugAcc := 0x1234#16 })
    (fun s => (s.ugRemaining, s.ugAcc, s.cursorPos)) = some (2, 0x1234#16, 0#4) := by decide
/-- D8. -/
theorem test_dummy_wraps : field (exec .dummy { demo with cursorPos := 15#4 })
    (fun s => (s.pat 15, s.pcursorPos, s.cursorPos)) = some (0#16, 15#4, 0#4) := by decide
/-- D9: at the boundary a move without a character zeroes the slot. -/
theorem test_dummy_claims : field (exec .dummy { demo with
        mode := .scrollLeft, winStart := 2#4, winEnd := 5#4, cursorPos := 5#4
        cells := filled (fun _ => 0x7777#16) (fun _ => .normal) })
    (fun s => (s.pat 5, s.pat 4, s.scrollActive, s.cursorPos)) = some (0#16, 0x7777#16, true, 5#4) := by decide
/-- E5: the fifth write into window [2,5] shifts patterns and attributes. -/
theorem test_chr_shifts_left : field (exec (.chr 0x05#6) { demo with
        mode := .scrollLeft, winStart := 2#4, winEnd := 5#4, cursorPos := 5#4, scrollActive := true
        cells := filled (fun i => BitVec.ofNat 16 i.val) (fun i => if i = 3 then .blank else .normal) })
    (fun s => (bitPositions.map s.pat).take 7 ++ [BitVec.ofNat 16 (cellsWith .blank s).length, (s.pat 15)])
    = some [0, 1, 3, 4, 5, 0x0105, 6, 1, 15] := by decide
/-- E10: ScrollRight at the start of [0,3] claims and does not wrap. -/
theorem test_chr_claims_right : field (exec (.chr 0x05#6) { demo with mode := .scrollRight, winEnd := 3#4 })
    (fun s => (s.pat 0, s.scrollActive, s.cursorPos)) = some (0x0105#16, true, 0#4) := by decide
/-- B8. -/
theorem test_chrx_notes : field (exec (.chrx 0x01#6) { demo with cursorPos := 5#4 })
    (fun s => (s.diags, s.pat 5, s.pcursorPos, s.cursorPos))
    = some ([.outOfRangeChar 0x41#8], 0x0101#16, 5#4, 6#4) := by decide
/-- B10: a code with bit 6 set is a character, not the code. -/
theorem test_chrx_of_code : field (submit 0x65#8 demo)
    (fun s => (s.pat 0, s.attr 0, s.cursorPos)) = some (0x0125#16, .normal, 1#4) := by decide
/-- G1, G2. -/
theorem test_blnkAll_notes_84 : field (exec (.blnkAll 1#2) demo)
    (fun s => (cellsWith .normal s, s.diags)) = some ([15], [.dutyControl 0x84#8]) := by decide
/-- G3. -/
theorem test_blnkAll_silent : field (exec (.blnkAll 2#2) demo)
    (fun s => (cellsWith .normal s, s.diags)) = some ([15], []) := by decide
/-- G4. -/
theorem test_blnkWin : field (exec (.blnkWin 0#2) { demo with winStart := 2#4, winEnd := 5#4 })
    (cellsWith .blank) = some [2, 3, 4] := by decide
/-- G6. -/
theorem test_blnkWin_invalid : field (exec (.blnkWin 0#2) { demo with winStart := 5#4, winEnd := 2#4 })
    (cellsWith .blank) = some [] := by decide
/-- G7. -/
theorem test_blnkOut : field (exec (.blnkOut 0#2) { demo with winStart := 1#4, winEnd := 3#4 })
    (cellsWith .blank) = some [0, 3, 4, 5, 6, 7, 8, 9, 10, 11] := by decide
/-- G10: no second range when the end is 15. -/
theorem test_blnkOut_to_the_end : field (exec (.blnkOut 0#2) { demo with winStart := 4#4, winEnd := 15#4 })
    (cellsWith .blank) = some [0, 1, 2, 3] := by decide
/-- G12. -/
theorem test_blnkOff : field (exec (.blnkOff 0#2) { demo with cells := filled (fun _ => 0#16) (fun _ => .blank) })
    (cellsWith .blank) = some [15] := by decide
/-- C2. -/
theorem test_setcur_scroll_left : field (exec (.setcur 7#4) { demo with mode := .scrollLeft, winEnd := 5#4 })
    (fun s => (s.cursorPos, s.scrollActive)) = some (7#4, true) := by decide
/-- C4. -/
theorem test_setcur_scroll_right : field (exec (.setcur 0#4)
      { demo with mode := .scrollRight, winStart := 2#4, winEnd := 5#4 })
    (fun s => (s.cursorPos, s.scrollActive)) = some (0#4, false) := by decide
/-- C6. -/
theorem test_modeRl : field (exec (.modeRl 1#2) { demo with mode := .scrollRight }) (·.mode) = some .rotateLeft := by
  decide
/-- L1.8. -/
theorem test_modeRr : field (exec (.modeRr 0#2) demo) (·.mode) = some .rotateRight := by decide
/-- C8. -/
theorem test_modeSl : field (exec (.modeSl 0#2) { demo with cursorPos := 9#4, winEnd := 5#4 })
    (fun s => (s.mode, s.cursorPos, s.scrollActive)) = some (.scrollLeft, 9#4, false) := by decide
/-- C7. -/
theorem test_modeSr : field (exec (.modeSr 2#2) demo) (·.mode) = some .scrollRight := by decide
/-- G13. -/
theorem test_clrNop : field (exec (.clrNop 0#2) demo) id = some demo := by decide
/-- G14. -/
theorem test_clrWin : field (exec (.clrWin 0#2) { demo with
        winStart := 2#4, winEnd := 5#4, cells := filled (fun i => BitVec.ofNat 16 i.val) (fun _ => .flash) })
    (fun s => (cellsWith .normal s, (bitPositions.map s.pat).take 7))
    = some ([2, 3, 4, 5], [0, 1, 0, 0, 0, 0, 6]) := by decide
/-- G16. -/
theorem test_clrOut : field (exec (.clrOut 0#2) { demo with
        winStart := 1#4, winEnd := 3#4, cells := filled (fun _ => 0x7777#16) (fun _ => .flash) })
    (fun s => (cellsWith .normal s, s.pat 0, s.pat 1, s.pat 11, s.pat 12))
    = some ([0, 3, 4, 5, 6, 7, 8, 9, 10, 11], 0#16, 0x7777#16, 0#16, 0x7777#16) := by decide
/-- G17. -/
theorem test_clrAll : field (exec (.clrAll 0#2) { demo with
        cursorPos := 7#4, cells := filled (fun _ => 0x7777#16) (fun _ => .blank) })
    (fun s => (cellsWith .normal s, s.pat 15, s.cursorPos))
    = some ([0, 1, 2, 3, 4, 5, 6, 7, 8, 9, 10, 11, 12, 13, 14, 15], 0#16, 7#4) := by decide
/-- C9. -/
theorem test_frate : field (exec (.frate 3#4) demo)
    (fun s => (s.flashRate, s.flashTimer, s.flashing)) = some (3#4, 19, false) := by decide
/-- C10. -/
theorem test_frate_zero : field (exec (.frate 0#4) { demo with
        flashing := true, flashRate := 2#4, flashTimer := 7, cells := filled (fun _ => 0#16) (fun _ => .flash) })
    (fun s => (s.flashRate, s.flashTimer, s.flashing, s.attr 0)) = some (0#4, 19, false, .flash) := by decide
/-- C12. -/
theorem test_fctlNone : field (exec (.fctlNone 0#2) { demo with
        flashControl := .all, flashing := true, flashTimer := 7 })
    (fun s => (s.flashControl, s.flashing, s.flashTimer)) = some (.none, false, 6) := by decide
/-- C13. -/
theorem test_fctlIn : field (exec (.fctlIn 1#2) demo) (·.flashControl) = some .insideWindow := by decide
/-- C13. -/
theorem test_fctlOut : field (exec (.fctlOut 2#2) demo) (·.flashControl) = some .outsideWindow := by decide
/-- C13. -/
theorem test_fctlAll : field (exec (.fctlAll 3#2) demo) (·.flashControl) = some .all := by decide
/-- L1.8, and R42's numbers the same way: the two-bit parameter is the number of what the byte sets. -/
theorem test_numbers : ∀ x : BitVec 2,
    field (submit (0b101000#6 ++ x) demo) (·.mode.number) = some x.toNat
    ∧ field (submit (0b110100#6 ++ x) demo) (·.flashControl.number) = some x.toNat := by decide
/-- C15. -/
theorem test_wstart_invalid : field (exec (.wstart 3#4) demo)
    (fun s => (s.winStart, s.winSize, s.winValid)) = some (3#4, -2, false) := by decide
/-- C18. -/
theorem test_wend_clamps : field (exec (.wend 2#4) { demo with
        mode := .scrollLeft, winStart := 3#4, cursorPos := 9#4 })
    (fun s => (s.winEnd, s.scrollActive, s.cursorPos)) = some (2#4, true, 2#4) := by decide
/-- C20. -/
theorem test_wend_keeps_cursor : field (exec (.wend 5#4) { demo with
        mode := .scrollRight, cursorPos := 9#4, scrollActive := true })
    (fun s => (s.winEnd, s.scrollActive, s.cursorPos)) = some (5#4, false, 9#4) := by decide

/-! ### Events -/

/-- A1. -/
theorem test_clock_samples_one : field (step { demo with inputs := [.clock true] })
    (fun s => (s.srAcc, s.srCount, s.clkLevel)) = some (1#8, 1, true) := by decide
/-- A5. -/
theorem test_clock_submits : field (step { demo with srCount := 7, srAcc := 0x51#8, inputs := [.clock true] })
    (fun s => (s.mode, s.srAcc, s.srCount, s.clkLevel)) = some (.scrollRight, 0#8, 0, true) := by decide
/-- A8. -/
theorem test_data_does_not_refresh : field (step { demo with flashTimer := 5, inputs := [.data true] })
    (fun s => (s.dataLevel, s.flashTimer)) = some (true, 5) := by decide
/-- F13. -/
theorem test_tick_first_phase : field (step { demo with flashTimer := 1, flashControl := .all, inputs := [.tick] })
    (fun s => (s.flashTimer, s.flashing, cellsWith .flash s == bitPositions.map Fin.val)) = some (20, true, true) := by
  decide
/-- H5. -/
theorem test_render_remaps : field (step { demo with
        cells := filled (fun i => if i = 0 then 0x1281#16 else 0#16) (fun _ => .normal), inputs := [.tick] })
    (fun s => s.sink 0) = some 0x8148#16 := by decide
/-- I3, the reset: the pending load is gone. -/
theorem test_reset_event : field (step { demo with ugRemaining := 1, srCount := 5, clkLevel := true, inputs := [.reset false] })
    (fun s => (s.ugRemaining, s.srCount, s.clkLevel)) = some (0, 0, false) := by decide
/-- R346, D32: a cursor position of 16 is refused, and with 15 the restore goes through. -/
theorem test_restore_range :
    step { demo with inputs := [.restore { demo.save with cursorPos := 16 }] } = .refused .restoreOutOfRange
    ∧ field (step { demo with inputs := [.restore { demo.save with cursorPos := 15 }] }) (·.cursorPos) = some 15#4 :=
  ⟨rfl, by decide⟩
/-- The byte of `withFetchWord` is what the first step after reset runs. -/
theorem test_fetch_word : field (step (State.reset.withFetchWord 8 0x97)) (·.cursorPos) = some 7#4 := by decide

/-! ### Witnesses: for each statement with hypotheses, and each clause of it, inputs that meet them -/

/-- A state that takes its next step. -/
def goes (s : State) : Prop := ∃ t, step s = .next t

theorem witness_DecodeOfEncode :
    (Instr.wend 15#4).wf demoChip = true ∧ ((Instr.wend 15#4).isGlyphData = true ↔ 0 < 0)
    ∧ (Instr.ugdata 0x25#8).wf demoChip = true ∧ ((Instr.ugdata 0x25#8).isGlyphData = true ↔ 0 < 1)
    ∧ Instr.dummy.wf demoChip = true ∧ (Instr.chr 0x3F#6).wf demoChip = true := by decide

theorem witness_DecoderIsTheOpcodeMap :
    demoChip.undefinedCode ≠ demoChip.flashMarkCode
    ∧ demoChip.dpCode ∉ [demoChip.flashMarkCode, demoChip.undefinedCode]
    ∧ demoChip.semiCode ∉ [demoChip.flashMarkCode, demoChip.undefinedCode, demoChip.dpCode]
    ∧ demoChip.glyphTriggerCode ∉
        [demoChip.flashMarkCode, demoChip.undefinedCode, demoChip.dpCode, demoChip.semiCode]
    ∧ demoChip.dummyCode ∉ [demoChip.flashMarkCode, demoChip.undefinedCode, demoChip.dpCode, demoChip.semiCode,
        demoChip.glyphTriggerCode]
    ∧ (0x00#8 &&& 0xC0#8 = 0x00#8 ∧ (0x00#8).extractLsb' 0 6 ∉ [demoChip.flashMarkCode, demoChip.undefinedCode,
        demoChip.dpCode, demoChip.semiCode, demoChip.glyphTriggerCode, demoChip.dummyCode])
    ∧ 0x7F#8 &&& 0xC0#8 = 0x40#8 ∧ 0x8C#8 &&& 0xF3#8 = 0x80#8 ∧ 0x81#8 &&& 0xF3#8 = 0x81#8
    ∧ 0x8E#8 &&& 0xF3#8 = 0x82#8 ∧ 0x83#8 &&& 0xF3#8 = 0x83#8 ∧ 0x9F#8 &&& 0xF0#8 = 0x90#8
    ∧ 0xAC#8 &&& 0xF3#8 = 0xA0#8 ∧ 0xA1#8 &&& 0xF3#8 = 0xA1#8 ∧ 0xAE#8 &&& 0xF3#8 = 0xA2#8
    ∧ 0xA3#8 &&& 0xF3#8 = 0xA3#8 ∧ 0xBC#8 &&& 0xF3#8 = 0xB0#8 ∧ 0xB1#8 &&& 0xF3#8 = 0xB1#8
    ∧ 0xBE#8 &&& 0xF3#8 = 0xB2#8 ∧ 0xB3#8 &&& 0xF3#8 = 0xB3#8 ∧ 0xCF#8 &&& 0xF0#8 = 0xC0#8
    ∧ 0xDC#8 &&& 0xF3#8 = 0xD0#8 ∧ 0xD1#8 &&& 0xF3#8 = 0xD1#8 ∧ 0xDE#8 &&& 0xF3#8 = 0xD2#8
    ∧ 0xD3#8 &&& 0xF3#8 = 0xD3#8 ∧ 0xEF#8 &&& 0xF0#8 = 0xE0#8 ∧ 0xFF#8 &&& 0xF0#8 = 0xF0#8 := by decide

theorem witness_StepRunsTheDecodedInstruction :
    ({ demo with inputs := [.submit 0x97#8] } : State).inputs = .submit 0x97#8 :: []
    ∧ decode demo.chip demo.ugRemaining [0x97#8] = .ok (.setcur 7#4, [])
    ∧ decode demo.chip 1 [BitVec.ofNat 8 0x25] = .ok (.ugdata 0x25#8, []) := ⟨rfl, rfl, rfl⟩

theorem witness_BlockWaits : State.reset.inputs = [] := rfl

theorem witness_EveryEventGoesOn :
    ∃ s : State, s.inputs ≠ [] ∧ ∀ e rest, s.inputs = e :: rest → e.total :=
  ⟨{ demo with inputs := [.restore demo.save] }, by decide, by
    intro e rest h
    obtain ⟨rfl, -⟩ := List.cons.inj h
    show demo.save.inRange = true
    decide⟩

/-- No edge; an edge short of the eighth bit; the eighth; and every serial premise of the other events. -/
theorem witness_Clock :
    (∃ s : State, s.inputs = [.clock false] ∧ ¬ (false ≠ s.clkLevel ∧ s.clkLevel = s.chip.low))
    ∧ (∃ s : State, s.inputs = [.clock true] ∧ (true ≠ s.clkLevel ∧ s.clkLevel = s.chip.low) ∧ s.srCount + 1 ≠ 8)
    ∧ (∃ s : State, s.inputs = [.clock true] ∧ (true ≠ s.clkLevel ∧ s.clkLevel = s.chip.low) ∧ s.srCount + 1 = 8) :=
  ⟨⟨{ demo with inputs := [.clock false] }, by decide⟩,
   ⟨{ demo with inputs := [.clock true], srCount := 6 }, by decide⟩,
   ⟨{ demo with inputs := [.clock true], srCount := 7 }, by decide⟩⟩

theorem witness_Data_Reset_Tick :
    ({ demo with inputs := [.data true] } : State).inputs = .data true :: []
    ∧ ({ demo with inputs := [.reset true] } : State).inputs = .reset true :: []
    ∧ ({ demo with inputs := [.reset false] } : State).inputs = .reset false :: []
    ∧ ({ demo with inputs := [.tick] } : State).inputs = .tick :: [] := ⟨rfl, rfl, rfl, rfl⟩

theorem witness_SendDelivers :
    ∃ s : State, s.inputs = sendByte s.chip.low 0x93#8 ++ [.tick] ∧ s.srCount = 0 ∧ s.clkLevel = s.chip.low :=
  ⟨{ demo with inputs := sendByte false 0x93#8 ++ [.tick] }, by decide⟩

theorem witness_Restore :
    ({ demo.save with cursorPos := 15, winEnd := 15, flashTimer := 20, ugRemaining := 2, srCount := 7 } : Image).inRange
      = true
    ∧ ({ demo.save with srCount := 8 } : Image).inRange = false
    ∧ (demo.flashTimer ≤ 20 ∧ demo.ugRemaining ≤ 2 ∧ demo.srCount ≤ 7 ∧ demo.chip.wf) := by decide

/-- The five clauses of the flash step, at the ends of their ranges. -/
theorem witness_FlashStep :
    demo.flashTimer = 0
    ∧ (∃ s : State, 2 ≤ s.flashTimer ∧ s.flashTimer = 2)
    ∧ (∀ c, ∃ s : State, s.flashTimer = 1 ∧ s.flashing = false ∧ s.flashControl = c)
    ∧ (∃ s : State, s.flashTimer = 1 ∧ s.flashing = true ∧ s.flashRate ≠ 1#4 ∧ s.flashRate = 0#4)
    ∧ (∃ s : State, s.flashTimer = 1 ∧ s.flashing = true ∧ s.flashRate = 1#4) :=
  ⟨by decide, ⟨{ demo with flashTimer := 2 }, by decide⟩,
   fun c => ⟨{ demo with flashTimer := 1, flashControl := c }, rfl, rfl, rfl⟩,
   ⟨{ demo with flashTimer := 1, flashing := true }, by decide⟩,
   ⟨{ demo with flashTimer := 1, flashing := true, flashRate := 1#4 }, by decide⟩⟩

theorem witness_FlashTimeline :
    (1#4 ≠ 0#4 ∧ demo.flashing = false ∧ demo.chip.flashBReload = 20)
    ∧ (∃ s : State, 15#4 ≠ 0#4 ∧ s.flashing = false ∧ s.chip.flashBReload = 0 ∧ (15#4 ≠ 1#4) ∧ 39 ≤ 39) :=
  ⟨by decide, ⟨{ demo with chip := { demoChip with flashBReload := 0 } }, by decide⟩⟩

theorem witness_RefreshFrame : demo.flashTimer ≠ 1 := by decide

theorem witness_Remap : demoChip.permBijective ∧ demo.chip = demoChip := by decide

theorem witness_ControlBytes :
    0x9F#8 &&& 0xF0#8 = 0x90#8 ∧ 0xA4#8 &&& 0xF3#8 = 0xA0#8 ∧ 0xD4#8 &&& 0xF3#8 = 0xD0#8
    ∧ 0xC0#8 &&& 0xF0#8 = 0xC0#8 ∧ 0xEF#8 &&& 0xF0#8 = 0xE0#8 ∧ 0xF0#8 &&& 0xF0#8 = 0xF0#8 := by decide

/-- WSTART beyond the end; WEND that clamps, at the cursor; WEND that does not, for the mode and for the place. -/
theorem witness_Window_commands :
    demo.winEnd < 1#4
    ∧ (∃ s : State, s.mode = .scrollLeft ∧ 9#4 ≤ s.cursorPos ∧ s.cursorPos = 9#4)
    ∧ (∃ s : State, ¬ (s.mode = .scrollLeft ∧ 9#4 ≤ s.cursorPos) ∧ s.cursorPos = 9#4)
    ∧ (∃ s : State, ¬ (s.mode = .scrollLeft ∧ 9#4 ≤ s.cursorPos) ∧ s.mode = .scrollLeft) :=
  ⟨by decide, ⟨{ demo with mode := .scrollLeft, cursorPos := 9#4 }, by decide⟩,
   ⟨{ demo with mode := .scrollRight, cursorPos := 9#4 }, by decide⟩,
   ⟨{ demo with mode := .scrollLeft, cursorPos := 8#4 }, by decide⟩⟩

/-- 0x40 notes, 0x3F is the placeholder, 0x3E does not note. -/
theorem witness_CharacterNotice :
    0x3F#8 < 0x40#8
    ∧ (demo.chip.placeholder.get (charIx ((0x3F#8).extractLsb' 0 6)) = true ∧ ¬ 0x3F#8 < 0x3F#8)
    ∧ (0x3E#8 ≤ 0x3F#8 ∧ demo.chip.placeholder.get (charIx ((0x3E#8).extractLsb' 0 6)) = false) := by decide

theorem witness_Overlays :
    ((demo.pat 0).getLsbD demoChip.flashMarkBit.val = false ∧ (demo.pat 0).getLsbD demoChip.dpBit.val = false)
    ∧ (∃ s : State, (s.pat (cellIx s.pcursorPos)).getLsbD s.chip.flashMarkBit.val = true
        ∧ (s.pat (cellIx s.pcursorPos)).getLsbD s.chip.dpBit.val = true) :=
  ⟨by decide, ⟨{ demo with cells := filled (fun _ => 0xC000#16) (fun _ => .normal) }, by decide⟩⟩

theorem witness_CharactersWriteTheirEntry :
    (0x3F#6 ∉ [demoChip.flashMarkCode, demoChip.undefinedCode, demoChip.dpCode, demoChip.semiCode,
        demoChip.glyphTriggerCode, demoChip.dummyCode])
    ∧ demo.chip.placeholder.get (charIx 0x3F#6) = true ∧ demo.chip.placeholder.get (charIx 0x00#6) = false := by decide

theorem witness_Ugdata :
    (∃ s : State, 2 ≤ s.ugRemaining ∧ s.ugRemaining = 2) ∧ (∃ s : State, s.ugRemaining = 1) ∧ demo.ugRemaining = 0 :=
  ⟨⟨{ demo with ugRemaining := 2 }, by decide⟩, ⟨{ demo with ugRemaining := 1 }, rfl⟩, rfl⟩

/-- Each code's byte reaches its own clause, and 0x00 and a glyph byte 0xCD the last. -/
theorem witness_WritePath :
    (0x26#8 ≠ 0x25#8 ∧ 0x26#8 = 0#2 ++ demoChip.undefinedCode)
    ∧ (0x2E#8 ∉ [0x25#8, 0x26#8] ∧ 0x2E#8 = 0#2 ++ demoChip.dpCode)
    ∧ (0x2C#8 ∉ [0x25#8, 0x26#8] ∧ 0x2C#8 = 0#2 ++ demoChip.semiCode)
    ∧ (0x3A#8 ∉ [0x25#8, 0x26#8, 0x2E#8, 0x2C#8] ∧ 0x3A#8 = 0#2 ++ demoChip.glyphTriggerCode)
    ∧ (0x3B#8 ∉ [0x25#8, 0x26#8, 0x2E#8, 0x2C#8, 0x3A#8] ∧ 0x3B#8 = 0#2 ++ demoChip.dummyCode)
    ∧ 0x00#8 ∉ [0x25#8, 0x26#8, 0x2E#8, 0x2C#8, 0x3A#8, 0x3B#8]
    ∧ 0xCD#8 ∉ [0x25#8, 0x26#8, 0x2E#8, 0x2C#8, 0x3A#8, 0x3B#8] := by decide

theorem witness_Ugload :
    ∃ s : State, s.inputs = ugload s.chip 0xABCD#16 ++ [] ∧ s.ugRemaining = 0
      ∧ s.chip.glyphTriggerCode ∉ [s.chip.flashMarkCode, s.chip.undefinedCode, s.chip.dpCode, s.chip.semiCode]
      ∧ (∀ k : CharIx, s.chip.isInBand k = true → (0xABCD#16).extractLsb' 0 8 ≠ (0#2 ++ k : Byte))
      ∧ s.effectiveMode = .rotateLeft :=
  ⟨{ demo with inputs := ugload demoChip 0xABCD#16 }, by decide⟩

theorem witness_InvalidWindow :
    (∃ s : State, s.winValid = false ∧ s.mode = .scrollLeft) ∧ (∃ s : State, s.winValid = false ∧ s.mode = .scrollRight)
    ∧ demo.winValid = true :=
  ⟨⟨{ demo with winStart := 5#4, winEnd := 4#4, mode := .scrollLeft }, by decide⟩,
   ⟨{ demo with winStart := 5#4, winEnd := 4#4, mode := .scrollRight }, by decide⟩, by decide⟩

theorem witness_Rotates :
    demo.effectiveMode = .rotateLeft ∧ (∃ s : State, s.effectiveMode = .rotateRight ∧ s.cursorPos = 0#4) :=
  ⟨by decide, ⟨{ demo with mode := .rotateRight }, by decide⟩⟩

/-- Just inside the window's end and at it; just above its start and at it. -/
theorem witness_Scrolls :
    (∃ s : State, s.effectiveMode = .scrollLeft ∧ s.cursorPos.toNat < s.winEnd.toNat)
    ∧ (∃ s : State, s.effectiveMode = .scrollLeft ∧ s.winEnd.toNat ≤ s.cursorPos.toNat ∧ s.scrollActive = false)
    ∧ (∃ s : State, s.effectiveMode = .scrollLeft ∧ s.winEnd.toNat ≤ s.cursorPos.toNat ∧ s.scrollActive = true)
    ∧ (∃ s : State, s.effectiveMode = .scrollRight ∧ s.winStart.toNat < s.cursorPos.toNat)
    ∧ (∃ s : State, s.effectiveMode = .scrollRight ∧ s.cursorPos.toNat ≤ s.winStart.toNat ∧ s.scrollActive = false)
    ∧ (∃ s : State, s.effectiveMode = .scrollRight ∧ s.cursorPos.toNat ≤ s.winStart.toNat ∧ s.scrollActive = true) :=
  ⟨⟨{ demo with mode := .scrollLeft, winEnd := 5#4, cursorPos := 4#4 }, by decide⟩,
   ⟨{ demo with mode := .scrollLeft, winEnd := 5#4, cursorPos := 5#4 }, by decide⟩,
   ⟨{ demo with mode := .scrollLeft, winEnd := 5#4, cursorPos := 5#4, scrollActive := true }, by decide⟩,
   ⟨{ demo with mode := .scrollRight, winStart := 2#4, winEnd := 5#4, cursorPos := 3#4 }, by decide⟩,
   ⟨{ demo with mode := .scrollRight, winStart := 2#4, winEnd := 5#4, cursorPos := 2#4 }, by decide⟩,
   ⟨{ demo with mode := .scrollRight, winStart := 2#4, winEnd := 5#4, cursorPos := 2#4, scrollActive := true },
    by decide⟩⟩

theorem witness_RotateLoop : [1#6, 2#6].length = [3#6, 4#6].length := rfl

theorem witness_ScrollLeftWindow :
    ∃ s : State, s.mode = .scrollLeft ∧ s.winStart.toNat ≤ s.winEnd.toNat ∧ s.cursorPos = s.winStart
      ∧ s.scrollActive = false ∧ s.winEnd.toNat - s.winStart.toNat + 1 ≤ [1#6, 2#6, 3#6, 4#6, 5#6].length
      ∧ (5 : CellIx).val = s.winStart.toNat + 3 ∧ (5 : CellIx).val ≤ s.winEnd.toNat
      ∧ [1#6, 2#6, 3#6, 4#6, 5#6][5 - (s.winEnd.toNat - s.winStart.toNat + 1) + 3]? = some 5#6 :=
  ⟨{ demo with mode := .scrollLeft, winStart := 2#4, winEnd := 5#4, cursorPos := 2#4 }, by decide⟩

theorem witness_CharacterShows :
    ∃ (s : State) (i : CellIx), i = match s.effectiveMode with
      | .rotateLeft | .rotateRight => cellIx s.cursorPos
      | .scrollLeft => if s.cursorPos.toNat < s.winEnd.toNat then cellIx s.cursorPos else cellIx s.winEnd
      | .scrollRight =>
        if s.winStart.toNat < s.cursorPos.toNat then cellIx s.cursorPos else cellIx s.winStart :=
  ⟨{ demo with mode := .scrollRight, winStart := 2#4, winEnd := 5#4 }, 2, by decide⟩

/-- A storing-free form, FRATE with the timer about to expire, and a moving form, each of which goes on. -/
theorem witness_Frames :
    (∃ t, exec (.setcur 3#4) demo = .next t) ∧ storesNoPattern (.setcur 3#4) ∧ storesNoAttr (.setcur 3#4)
    ∧ demo.flashTimer ≠ 1
    ∧ (∃ t, exec (.frate 3#4) { demo with flashTimer := 1 } = .next t) ∧ storesNoAttr (.frate 3#4)
    ∧ (∃ t, exec (.chr 5#6) demo = .next t) ∧ (∃ t, exec .dummy demo = .next t) :=
  ⟨⟨_, rfl⟩, trivial, trivial, by decide, ⟨_, rfl⟩, trivial, ⟨_, rfl⟩, ⟨_, rfl⟩⟩

/-- A moving form at each boundary of a scroll window, with a cell outside the window. -/
theorem witness_MovingWrites :
    (∃ s t : State, exec (.chrx 5#6) s = .next t ∧ s.effectiveMode = .scrollLeft ∧ s.winEnd.toNat ≤ s.cursorPos.toNat
      ∧ s.scrollActive = false ∧ s.flashTimer ≠ 1 ∧ ¬ (s.winStart.toNat ≤ 6 ∧ 6 ≤ s.winEnd.toNat))
    ∧ (∃ s t : State, exec .dummy s = .next t ∧ s.effectiveMode = .scrollRight ∧ s.cursorPos.toNat ≤ s.winStart.toNat
      ∧ s.scrollActive = false ∧ s.flashTimer ≠ 1 ∧ ¬ (s.winStart.toNat ≤ 6 ∧ 6 ≤ s.winEnd.toNat)) :=
  ⟨⟨{ demo with mode := .scrollLeft, winStart := 2#4, winEnd := 5#4, cursorPos := 5#4 }, _, rfl, by decide⟩,
   ⟨{ demo with mode := .scrollRight, winStart := 2#4, winEnd := 5#4, cursorPos := 2#4 }, _, rfl, by decide⟩⟩

/-- Each field a form may write does change somewhere. -/
theorem witness_Fields :
    field (exec (.setcur 3#4) demo) (·.cursorPos) = some 3#4 ∧ field (exec .dummy { demo with cursorPos := 1#4 }) (·.pcursorPos) = some 1#4
    ∧ field (exec (.wstart 3#4) demo) (·.winStart) = some 3#4 ∧ field (exec (.wend 3#4) demo) (·.winEnd) = some 3#4
    ∧ field (exec (.frate 3#4) demo) (·.flashRate) = some 3#4 ∧ field (exec .ugtrig demo) (·.ugRemaining) = some 2 := by
  decide

theorem witness_Ranges :
    ({ demo with inputs := [.tick] } : State).inRange ∧ goes { demo with inputs := [.tick] } :=
  ⟨by unfold State.inRange; decide, ⟨_, rfl⟩⟩

theorem witness_ReceiverAligned :
    let s : State := { demo with srCount := 7, srAcc := 0x7F#8, inputs := [.clock true] }
    s.srCount ≤ 7 ∧ s.receiverAligned ∧ ¬ s.nextIsRestore ∧ goes s :=
  ⟨by decide, by unfold State.receiverAligned; decide, (fun ⟨_, _, h⟩ => nomatch h), ⟨_, rfl⟩⟩

theorem witness_SinksShowCells :
    ({ demo with inputs := [.tick] } : State).sinksShowCells ∧ goes { demo with inputs := [.tick] } :=
  ⟨by unfold State.sinksShowCells; decide, ⟨_, rfl⟩⟩

theorem witness_NoStepWritesTheParameters : goes { demo with inputs := [.submit 0xB3#8] } := ⟨_, rfl⟩

end Sys2Proof.Tests
end

section
/-! SUPPORT. The decoder undoes the encoder, and a byte that meets a row's mask and match columns is the
encoding of that row's form: so the decoder is the opcode map. -/

namespace Sys2Proof

/-- On the byte of a code, the in-band tests compare codes, in R201's order. -/
theorem decodeLowCharacter_codeByte (c : Chip) (k : CharIx) :
    decodeLowCharacter c (codeByte k) =
      if k = c.flashMarkCode then .fmark
      else if k = c.undefinedCode then .undef
      else if k = c.dpCode then .dpt
      else if k = c.semiCode then .semi
      else if k = c.glyphTriggerCode then .ugtrig
      else if k = c.dummyCode then .dummy
      else .chr k := by
  simp only [decodeLowCharacter, codeByte_inj, charField_codeByte]

/-- With no load pending, the decoder gives back a well-formed form other than glyph data (R101 to R110). -/
theorem decodeByte_encode (c : Chip) {i : Instr} (hwf : i.wf c = true) (hg : i.isGlyphData = false) :
    decodeByte c 0 (encode c i) = i := by
  cases i with
  | ugdata d => cases hg
  | fmark | undef | dpt | semi | ugtrig | dummy | chr k =>
    refine (decodeByte_codeByte c _).trans ?_
    simp_all [decodeLowCharacter_codeByte, Instr.wf, Chip.isInBand]
  | chrx k =>
    have hbyte : (0b01#2 ++ k : Byte)[7] = false ∧ (0b01#2 ++ k : Byte)[6] = true
        ∧ charField (0b01#2 ++ k) = k := by
      clear hwf hg
      revert k; decide
    obtain ⟨h7, h6, hk⟩ := hbyte
    exact (decodeByte_chrx c h7 h6).trans (congrArg Instr.chrx hk)
  | blnkAll x | blnkWin x | blnkOut x | blnkOff x | modeRl x | modeRr x | modeSl x | modeSr x
  | clrNop x | clrWin x | clrOut x | clrAll x | fctlNone x | fctlIn x | fctlOut x | fctlAll x
  | setcur x | frate x | wstart x | wend x =>
    refine decodeByte_of_control c ?_
    dsimp only [encode]
    clear hwf hg
    revert x; decide

/-- A byte that is the encoding of a well-formed form decodes to it, with no load pending. -/
theorem decodeByte_of_eq_encode {c : Chip} {b : Byte} {i : Instr} (hb : b = encode c i) (hwf : i.wf c = true)
    (hg : i.isGlyphData = false) : decodeByte c 0 b = i := by
  rw [hb, decodeByte_encode c hwf hg]

/-- A byte that meets a character row's mask and match is the row's top bits and the index field (R103). -/
theorem eq_append_of_mask_C0 {b : Byte} {t : BitVec 2} (h : b &&& 0xC0#8 = t ++ 0#6) : b = t ++ charField b := by
  have split : ∀ b : Byte, b = (b &&& 0xC0#8).extractLsb' 6 2 ++ charField b := by decide
  have top : ∀ t : BitVec 2, (t ++ 0#6 : Byte).extractLsb' 6 2 = t := by decide
  simpa only [h, top] using split b

/-- A byte that meets an F_CTRL4 row's mask and match is the row's group and the parameter (R104). -/
theorem eq_append_of_mask_F0 {b : Byte} {g : BitVec 4} (h : b &&& 0xF0#8 = g ++ 0#4) :
    b = g ++ nibbleField b := by
  have split : ∀ b : Byte, b = (b &&& 0xF0#8).extractLsb' 4 4 ++ nibbleField b := by decide
  have group : ∀ g : BitVec 4, (g ++ 0#4 : Byte).extractLsb' 4 4 = g := by decide
  simpa only [h, group] using split b

/-- A byte that meets an F_CTRL2 row's mask and match is the row's group and two-bit parameter, with the unused
bits between them (R105). -/
theorem eq_append_of_mask_F3 {b : Byte} {g : BitVec 4} {p : BitVec 2} (h : b &&& 0xF3#8 = g ++ 0#2 ++ p) :
    b = g ++ unusedField b ++ p := by
  have split : ∀ b : Byte,
      b = (b &&& 0xF3#8).extractLsb' 4 4 ++ unusedField b ++ (b &&& 0xF3#8).extractLsb' 0 2 := by decide
  have group : ∀ (g : BitVec 4) (p : BitVec 2), (g ++ 0#2 ++ p : Byte).extractLsb' 4 4 = g := by decide
  have param : ∀ (g : BitVec 4) (p : BitVec 2), (g ++ 0#2 ++ p : Byte).extractLsb' 0 2 = p := by decide
  simpa only [h, group, param] using split b

/-- Settles O3: each row's premise says that the byte is the encoding of the row's form and, for an in-band
code or CHR, that the form is well formed; the decoder undoes the encoder. -/
theorem decoderIsTheOpcodeMap : Obligations.DecoderIsTheOpcodeMap := by
  intro c b
  refine ⟨fun n hn => decodeByte_pending c hn b, fun hb => decodeByte_of_eq_encode hb rfl rfl,
    fun hb hc => decodeByte_of_eq_encode hb (by simpa [Instr.wf] using hc) rfl,
    fun hb hc => decodeByte_of_eq_encode hb (by simpa [Instr.wf] using hc) rfl,
    fun hb hc => decodeByte_of_eq_encode hb (by simpa [Instr.wf, and_assoc] using hc) rfl,
    fun hb hc => decodeByte_of_eq_encode hb (by simpa [Instr.wf, and_assoc] using hc) rfl,
    fun hb hc => decodeByte_of_eq_encode hb (by simpa [Instr.wf, and_assoc] using hc) rfl,
    fun hb hc => decodeByte_of_eq_encode (eq_append_of_mask_C0 hb)
      (by simpa [Instr.wf, Chip.isInBand, and_assoc] using hc) rfl,
    fun hb => decodeByte_of_eq_encode (eq_append_of_mask_C0 hb) rfl rfl,
    ?_, ?_, ?_, ?_, fun hb => decodeByte_of_eq_encode (eq_append_of_mask_F0 hb) rfl rfl,
    ?_, ?_, ?_, ?_, ?_, ?_, ?_, ?_, fun hb => decodeByte_of_eq_encode (eq_append_of_mask_F0 hb) rfl rfl,
    ?_, ?_, ?_, ?_, fun hb => decodeByte_of_eq_encode (eq_append_of_mask_F0 hb) rfl rfl,
    fun hb => decodeByte_of_eq_encode (eq_append_of_mask_F0 hb) rfl rfl⟩
  -- What is left are the rows of F_CTRL2.
  all_goals exact fun hb => decodeByte_of_eq_encode (eq_append_of_mask_F3 hb) rfl rfl

end Sys2Proof
end

section
/-! SUPPORT. The clock event: when a call samples a bit, and what its step answers in each case. -/

namespace Sys2Proof.Machine

/-- When a call samples a bit, as R131 says it: an edge, out of a stored low level. -/
theorem samples_iff {level : Bool} {s : State} :
    samples level s = true ↔ level ≠ s.clkLevel ∧ s.clkLevel = s.chip.low := by simp [samples]

/-- A clock event's step is the clock call, in the state with the event taken off. -/
theorem step_clock {s : State} {level : Bool} {rest : List Event} (h : s.inputs = .clock level :: rest) :
    step s = clock level { s with inputs := rest } := step_cons h

/-- The sample that completes a byte leaves the count at 8 (R133). -/
theorem sampleBit_eighth {s : State} (h8 : s.srCount + 1 = 8) :
    sampleBit s = { s with
      srAcc := (s.srAcc <<< 1) ||| (if s.dataLevel = s.chip.low then 1#8 else 0#8), srCount := 8 } := by
  rw [sampleBit, h8]

/-- The clock call of the eighth bit goes on whatever the byte is: every submit does (R133, R322). -/
theorem clock_eighth {s : State} {level : Bool} (h : samples level s = true) (h8 : s.srCount + 1 = 8) :
    ∃ u, submit (sampleBit s).srAcc { s with srAcc := (sampleBit s).srAcc, srCount := 8 } = .next u
      ∧ clock level s = .next (endClock level (clearReceiver u)) := by
  obtain ⟨u, hu, -⟩ := submit_cases (sampleBit s).srAcc (sampleBit s)
  refine ⟨refresh u, ?_, clock_byte h h8 hu⟩
  rwa [sampleBit_eighth h8] at hu ⊢

/-- Settles O9, by the three cases of a clock call: no sampled edge, a sampled bit, and the eighth one, whose
byte a submit always takes. -/
theorem clockReceivesBitsAndSubmitsBytes : Obligations.ClockReceivesBitsAndSubmitsBytes := by
  intro s level rest hin
  rw [step_clock hin]
  refine ⟨fun hidle => ?_, fun hedge hbit => ?_, fun hedge hbyte => ?_⟩
  · exact clock_idle (Bool.eq_false_iff.2 (mt samples_iff.1 hidle))
  · exact clock_bit (samples_iff.2 hedge) hbit
  · exact clock_eighth (s := { s with inputs := rest }) (samples_iff.2 hedge) hbyte

end Sys2Proof.Machine
end

section
/-! SUPPORT. The cursor and window commands SETCUR, WSTART and WEND: the state whose refresh each answers, and
the decode of their bytes. -/

namespace Sys2Proof.Machine

/-- The scroll flag by the order of the nibbles (R156, R168). -/
theorem scrollActiveFor_eq_decide (m : Mode) (cursor winEnd : Nibble) :
    scrollActiveFor m cursor winEnd = decide (m = .scrollLeft ∧ winEnd ≤ cursor) := by
  simp only [scrollActiveFor, BitVec.le_def]

/-- A window is valid exactly when its start is not beyond its end: the size never exceeds 16 (R37, R38). -/
theorem winValid_iff {s : State} : s.winValid = true ↔ s.winStart.toNat ≤ s.winEnd.toNat := by
  have hend : s.winEnd.toNat < 16 := s.winEnd.isLt
  rw [State.winValid, decide_eq_true_iff, State.winSize]
  omega

/-- A window whose end is before its start is invalid (R167). -/
theorem winValid_eq_false_of_lt {s : State} (h : s.winEnd < s.winStart) : s.winValid = false :=
  Bool.eq_false_iff.2 (mt winValid_iff.1 (Nat.not_le.2 (BitVec.lt_def.1 h)))

/-- What SETCUR answers (R156). -/
theorem exec_setcur (n : Nibble) (s : State) :
    exec (.setcur n) s = .next (refresh
      { s with cursorPos := n, scrollActive := scrollActiveFor s.mode n s.winEnd }) := rfl

/-- What WSTART answers (R167). -/
theorem exec_wstart (n : Nibble) (s : State) :
    exec (.wstart n) s = .next (refresh { s with winStart := n }) := rfl

/-- What WEND answers (R168). -/
theorem exec_wend (n : Nibble) (s : State) :
    exec (.wend n) s = .next (refresh
      { s with
        winEnd := n
        scrollActive := scrollActiveFor s.mode s.cursorPos n
        cursorPos := if scrollActiveFor s.mode s.cursorPos n then n else s.cursorPos }) := rfl

/-- Settles O23: the byte is the encoding of SETCUR, and the flag it computes is the statement's, read with the
order of the nibbles. -/
theorem setcurPlacesTheCursor : Obligations.SetcurPlacesTheCursor := by
  refine ⟨fun c b hb => decodeByte_of_eq_encode (eq_append_of_mask_F0 hb) rfl rfl, fun s n => ?_⟩
  rw [exec_setcur, scrollActiveFor_eq_decide]

/-- Settles O28: the refresh keeps the window, the flag and the cursor, so the window after the step is the new
start with the old end. -/
theorem wstartMovesTheWindowStart : Obligations.WstartMovesTheWindowStart := by
  refine ⟨fun c b hb => decodeByte_of_eq_encode (eq_append_of_mask_F0 hb) rfl rfl, fun s n => ?_⟩
  refine ⟨exec_wstart n s, _, exec_wstart n s, ?_, ?_, fun hlt => winValid_eq_false_of_lt ?_, ?_, ?_⟩
  · exact refresh_winStart _
  · simp only [State.winSize, refresh_winStart, refresh_winEnd]
  · simpa only [refresh_winStart, refresh_winEnd] using hlt
  · exact refresh_scrollActive _
  · exact refresh_cursorPos _

/-- Settles O29, by the two values of the flag: it is at once the flag WEND stores and the test for the clamp. -/
theorem wendMovesTheWindowEndAndClamps : Obligations.WendMovesTheWindowEndAndClamps := by
  refine ⟨fun c b hb => decodeByte_of_eq_encode (eq_append_of_mask_F0 hb) rfl rfl, fun s n => ?_⟩
  rw [exec_wend, scrollActiveFor_eq_decide]
  refine ⟨fun hclamp => ?_, fun hkeep => ?_⟩
  · simp only [decide_eq_true hclamp, if_true]
  · simp only [decide_eq_false hkeep, Bool.false_eq_true, if_false]

end Sys2Proof.Machine
end

section
/-! SUPPORT. The write path's UNDEF, the effective mode and the rotate steps: the notice of an in-band code's
byte, the fallback of a scroll mode, and a nibble's step as arithmetic modulo 16. -/

namespace Sys2Proof.Machine

/-- An in-band code's byte is never above 0x3F, so its notice is emitted exactly for a placeholder (R150, R153). -/
theorem noteCharacter_codeByte (k : CharIx) (s : State) :
    noteCharacter (codeByte k) s = { s with
      diags := if Chip.isPlaceholder s.chip k = true
               then s.diags ++ [.outOfRangeChar (codeByte k)] else s.diags } := by
  have hlow : ¬ 0x3F#8 < codeByte k := by revert k; decide
  by_cases hk : Chip.isPlaceholder s.chip k = true
  · simp [noteCharacter, hk, State.note]
  · simp [noteCharacter, hlow, hk]

/-- What UNDEF answers (R203). -/
theorem exec_undef (s : State) :
    exec .undef s = .next (refresh (noteCharacter (codeByte s.chip.undefinedCode) s)) := rfl

/-- Settles O36: the byte is the encoding of UNDEF, well formed where its code is not the flash-mark code, and
UNDEF refreshes the state its notice leaves. -/
theorem undefOnlyRefreshes : Obligations.UndefOnlyRefreshes := by
  refine fun s => ⟨fun hcode => decodeByte_of_eq_encode rfl ?_ rfl, ?_⟩
  · simpa [Instr.wf] using hcode
  · rw [exec_undef, noteCharacter_codeByte, Chip.isPlaceholder, codeByte]

/-- With a valid window the effective mode is the mode (R210). -/
theorem effectiveMode_of_winValid {s : State} (h : s.winValid = true) : s.effectiveMode = s.mode := by
  rw [State.effectiveMode, if_pos h]

/-- A rotate mode is its own effective mode, whatever the window (R210). -/
theorem effectiveMode_of_rotate {s : State} (h : s.mode = .rotateLeft ∨ s.mode = .rotateRight) :
    s.effectiveMode = s.mode := by
  rcases h with h | h <;> simp only [State.effectiveMode, h, ite_self]

/-- With an invalid window ScrollLeft falls back to RotateLeft (R210). -/
theorem effectiveMode_of_scrollLeft {s : State} (hw : s.winValid = false) (h : s.mode = .scrollLeft) :
    s.effectiveMode = .rotateLeft := by
  simp [State.effectiveMode, hw, h]

/-- With an invalid window ScrollRight falls back to RotateRight (R210). -/
theorem effectiveMode_of_scrollRight {s : State} (hw : s.winValid = false) (h : s.mode = .scrollRight) :
    s.effectiveMode = .rotateRight := by
  simp [State.effectiveMode, hw, h]

/-- Settles O43, by the fallback's cases; a move writes `pcursor_pos` and never the mode. -/
theorem invalidWindowFallsBackToRotate : Obligations.InvalidWindowFallsBackToRotate := by
  refine ⟨fun s => ⟨effectiveMode_of_winValid, fun hmode => ?_, fun hmode => ?_, effectiveMode_of_scrollLeft,
    effectiveMode_of_scrollRight⟩, fun s seg change => ⟨move_mode seg change s, move_pcursorPos seg change s⟩⟩
  · rw [effectiveMode_of_rotate (.inl hmode), hmode]
  · rw [effectiveMode_of_rotate (.inr hmode), hmode]

/-- The step right on a nibble, 15 to 0 (R211). -/
theorem nibble_add_one (n : Nibble) : n + 1#4 = BitVec.ofNat 4 ((n.toNat + 1) % 16) := by bv_omega

/-- The step left on a nibble, 0 to 15 (R212). -/
theorem nibble_sub_one (n : Nibble) : n - 1#4 = BitVec.ofNat 4 ((n.toNat + 15) % 16) := by bv_omega

/-- The engine's write does not look at `pcursor_pos`, so recording it first or last is the same (R209). -/
theorem writeIf_withPcursorPos (change : Bool) (i : CellIx) (seg : Word) (s : State) (p : Nibble) :
    writeIf change i seg { s with pcursorPos := p } = { writeIf change i seg s with pcursorPos := p } := by
  cases change <;> rfl

/-- Settles O44: a move in a rotate mode is that mode's step, whose write commutes with recording the cursor and
whose cursor steps modulo 16. -/
theorem rotateStepsWrapAround : Obligations.RotateStepsWrapAround := by
  refine fun s seg change => ⟨fun hmode => ?_, fun hmode => ?_⟩
  · rw [move_rotateLeft hmode, rotateLeft, writeIf_withPcursorPos, nibble_add_one, writeIf]
  · rw [move_rotateRight hmode, rotateRight, writeIf_withPcursorPos, nibble_sub_one, writeIf]

end Sys2Proof.Machine
end

section
/-! SUPPORT. The tick event, and what a render shows: the pattern of a Normal cell remapped, any other cell off. -/

namespace Sys2Proof.Machine

/-- A tick event's step is the tick call, in the state with the event taken off. -/
theorem step_tick {s : State} {rest : List Event} (h : s.inputs = .tick :: rest) :
    step s = tick { s with inputs := rest } := step_cons h

/-- Settles O14: the step is the tick call, which answers with one refresh. -/
theorem tickRefreshesOnce : Obligations.TickRefreshesOnce := by
  intro s rest hin
  rw [step_tick hin, tick]

/-- A Normal cell shows its remapped pattern (R250). -/
theorem visible_of_normal {s : State} {i : CellIx} (h : s.attr i = .normal) :
    s.visible i = remap s.chip (s.pat i) := if_pos h

/-- A Flash or Blank cell shows nothing (R250). -/
theorem visible_of_not_normal {s : State} {i : CellIx} (h : s.attr i ≠ .normal) : s.visible i = 0#16 := if_neg h

/-- A render writes the sinks alone (R250). -/
theorem render_eq_withOut (s : State) : render s = { s with out := (render s).out } := rfl

/-- Settles O19: a sink holds what its cell shows, which is decided by whether the cell is Normal; the frame and
the order of a refresh are the definitions' own. -/
theorem renderShowsNormalCellsOnly : Obligations.RenderShowsNormalCellsOnly := by
  refine fun s => ⟨fun i => ?_, render_eq_withOut s, rfl⟩
  rw [sink_render]
  split
  case isTrue hnormal => exact visible_of_normal hnormal
  case isFalse hother => exact visible_of_not_normal hother

end Sys2Proof.Machine
end

section
/-! SUPPORT. The blank commands BLNK.WIN and BLNK.OUT: their ranges as propositions, and what an attribute write
guarded by the window's validity does to the cells and leaves unchanged. -/

namespace Sys2Proof.Machine

/-- BLNK.WIN's range: the window without its end cell (R272). -/
@[simp] theorem State.windowButEnd_iff {s : State} {i : CellIx} :
    s.windowButEnd i = true ↔ s.winStart.toNat ≤ i.val ∧ i.val < s.winEnd.toNat := decide_eq_true_iff

/-- BLNK.OUT's and CLR.OUT's literal range (R273, R279). -/
@[simp] theorem State.outsideRange_iff {s : State} {i : CellIx} :
    s.outsideRange i = true ↔ i.val < s.winStart.toNat
      ∨ (s.winEnd.toNat < 15 ∧ s.winEnd.toNat ≤ i.val ∧ i.val < 15 - s.winEnd.toNat) := by
  rw [State.outsideRange, Bool.or_eq_true, decide_eq_true_iff, decide_eq_true_iff]

/-- With a valid window a guarded command acts. -/
theorem ifWindowValid_of_valid {s : State} (h : s.winValid = true) (act : State → State) :
    ifWindowValid act s = act s := if_pos h

/-- With an invalid window a guarded command does nothing. -/
theorem ifWindowValid_of_invalid {s : State} (h : ¬ s.winValid = true) (act : State → State) :
    ifWindowValid act s = s := if_neg h

section
variable (range : State → CellIx → Bool) (a : Attr) (s : State)

/-- A guarded attribute write changes cells alone. -/
theorem ifWindowValid_setAttrsOn_eq_withCells :
    ifWindowValid (fun t => t.setAttrsOn (range t) a) s
      = { s with cells := (ifWindowValid (fun t => t.setAttrsOn (range t) a) s).cells } := by
  by_cases h : s.winValid = true
  · rw [ifWindowValid_of_valid h]; rfl
  · rw [ifWindowValid_of_invalid h]

/-- A guarded attribute write keeps the patterns (R79). -/
theorem pat_ifWindowValid_setAttrsOn (i : CellIx) :
    (ifWindowValid (fun t => t.setAttrsOn (range t) a) s).pat i = s.pat i := by
  by_cases h : s.winValid = true
  · rw [ifWindowValid_of_valid h, State.pat_setAttrsOn]
  · rw [ifWindowValid_of_invalid h]

/-- A guarded attribute write sets the cells of its range, and those only with a valid window. -/
theorem attr_ifWindowValid_setAttrsOn (i : CellIx) :
    (ifWindowValid (fun t => t.setAttrsOn (range t) a) s).attr i
      = if s.winValid = true ∧ range s i = true then a else s.attr i := by
  by_cases h : s.winValid = true
  · simp only [ifWindowValid_of_valid h, State.attr_setAttrsOn, h, true_and]
  · rw [ifWindowValid_of_invalid h, if_neg (mt And.left h)]

end

/-- What BLNK.WIN answers (R272). -/
theorem exec_blnkWin (x : Unused) (s : State) :
    exec (.blnkWin x) s = .next (refresh (ifWindowValid (fun t => t.setAttrsOn t.windowButEnd .blank) s)) := rfl

/-- What BLNK.OUT answers (R273). -/
theorem exec_blnkOut (x : Unused) (s : State) :
    exec (.blnkOut x) s = .next (refresh (ifWindowValid (fun t => t.setAttrsOn t.outsideRange .blank) s)) := rfl

/-- Settles O31: the byte is the encoding of BLNK.WIN, which is the guarded write of Blank on the window without
its end cell. -/
theorem blankWindowIsEndExclusive : Obligations.BlankWindowIsEndExclusive := by
  refine ⟨fun c b hb => decodeByte_of_eq_encode (eq_append_of_mask_F3 hb) rfl rfl, fun s x =>
    ⟨_, exec_blnkWin x s, ifWindowValid_setAttrsOn_eq_withCells State.windowButEnd .blank s, fun i =>
      ⟨pat_ifWindowValid_setAttrsOn State.windowButEnd .blank s i, ?_⟩⟩⟩
  rw [attr_ifWindowValid_setAttrsOn State.windowButEnd]
  simp only [State.windowButEnd_iff]

/-- Settles O32: the byte is the encoding of BLNK.OUT, which is the guarded write of Blank on the literal outside
range. -/
theorem blankOutsideUsesTheLiteralRange : Obligations.BlankOutsideUsesTheLiteralRange := by
  refine ⟨fun c b hb => decodeByte_of_eq_encode (eq_append_of_mask_F3 hb) rfl rfl, fun s x =>
    ⟨_, exec_blnkOut x s, ifWindowValid_setAttrsOn_eq_withCells State.outsideRange .blank s, fun i =>
      ⟨pat_ifWindowValid_setAttrsOn State.outsideRange .blank s i, ?_⟩⟩⟩
  rw [attr_ifWindowValid_setAttrsOn State.outsideRange]
  simp only [State.outsideRange_iff]

end Sys2Proof.Machine
end

section
/-! SUPPORT. The remapper, one bit at a time: what an assigned bit reads, and what the loop of R303 leaves in the
bit that PERM gives a position. -/

namespace Sys2Proof.Machine

/-- The mask of bit `i` has that bit alone. -/
@[simp] theorem bitAt_bitMask (i k : CellIx) : bitAt (bitMask i) k = decide (k = i) := by
  simp only [bitAt, bitMask, ← BitVec.twoPow_eq, BitVec.getLsbD_twoPow, i.isLt, decide_true, Bool.true_and,
    Fin.ext_iff, eq_comm]

/-- An `or` reads bit by bit. -/
@[simp] theorem bitAt_or (a b : Word) (k : CellIx) : bitAt (a ||| b) k = (bitAt a k || bitAt b k) :=
  BitVec.getLsbD_or

/-- Clearing the bits of `b` reads bit by bit. -/
@[simp] theorem bitAt_and_not (a b : Word) (k : CellIx) : bitAt (a &&& ~~~ b) k = (bitAt a k && !bitAt b k) := by
  simp only [bitAt, BitVec.getLsbD_and, BitVec.getLsbD_not, k.isLt, decide_true, Bool.true_and]

/-- After `q[i] <- v`, bit `i` reads `v` and every other bit as before. -/
theorem bitAt_assignBit (q : Word) (i k : CellIx) (v : Bool) :
    bitAt (assignBit q i v) k = if k = i then v else bitAt q k := by
  by_cases hk : k = i
  · cases v <;> simp [assignBit, hk]
  · cases v <;> simp [assignBit, hk]

/-- The remapper's loop over `js`, begun from `q` (R303). -/
def remapLoop (c : Chip) (p : Word) (js : List CellIx) (q : Word) : Word :=
  js.foldl (fun q j => assignBit q (c.perm.get j) (bitAt p j)) q

/-- `REMAP` is the loop over all bit positions, from 0 (R303). -/
theorem remap_eq_remapLoop (c : Chip) (p : Word) : remap c p = remapLoop c p bitPositions 0#16 := rfl

/-- One turn of the loop assigns one bit. -/
theorem remapLoop_cons (c : Chip) (p : Word) (i : CellIx) (js : List CellIx) (q : Word) :
    remapLoop c p (i :: js) q = remapLoop c p js (assignBit q (c.perm.get i) (bitAt p i)) := rfl

/-- The loop moves bit `j` to PERM(`j`) for each `j` it visits, and leaves PERM(`j`) alone for any other: under a
bijection no other turn writes there. -/
theorem bitAt_remapLoop {c : Chip} (hperm : c.permBijective) (p : Word) (j : CellIx) (js : List CellIx) (q : Word) :
    bitAt (remapLoop c p js q) (c.perm.get j) = if j ∈ js then bitAt p j else bitAt q (c.perm.get j) := by
  induction js generalizing q with
  | nil => rfl
  | cons i js ih =>
    have hsame : c.perm.get j = c.perm.get i ↔ j = i := ⟨hperm j i, congrArg _⟩
    rw [remapLoop_cons, ih, bitAt_assignBit]
    by_cases hj : j = i
    · subst hj; simp
    · simp [hsame, hj]

/-- The loop visits every bit position. -/
theorem mem_bitPositions : ∀ j : CellIx, j ∈ bitPositions := by decide

/-- Bit PERM(`j`) of the remapped pattern is bit `j` (R303). -/
theorem bitAt_remap {c : Chip} (hperm : c.permBijective) (p : Word) (j : CellIx) :
    bitAt (remap c p) (c.perm.get j) = bitAt p j := by
  rw [remap_eq_remapLoop, bitAt_remapLoop hperm, if_pos (mem_bitPositions j)]

/-- Settles O20: the loop visits every position, and no later turn overwrites the bit it moved. -/
theorem remapMovesEachBit : Obligations.RemapMovesEachBit :=
  fun _ p j hperm => bitAt_remap hperm p j

end Sys2Proof.Machine
end

section
/-! SUPPORT. Events that cannot stop the block: the clock call, the submitted byte, the restore in range, and from
them every event the spec gives an effect. -/

namespace Sys2Proof.Machine

/-- A submitted byte goes on: it is UGDATA only while a load is pending (R101, R322). -/
theorem submit_goesOn (b : Byte) (s : State) : goesOn (submit b s) := by
  obtain ⟨u, hu, -⟩ := submit_cases b s
  exact ⟨refresh u, hu⟩

/-- A clock call goes on, with or without a sampled bit, and with the eighth (R130, R322). -/
theorem clock_goesOn (level : Bool) (s : State) : goesOn (clock level s) := by
  rcases clock_cases level s with ⟨-, hidle⟩ | ⟨-, -, hbit⟩ | ⟨-, -, u, -, hbyte⟩
  · exact ⟨_, hidle⟩
  · exact ⟨_, hbit⟩
  · exact ⟨_, hbyte⟩

/-- A restore in range is one render of the loaded state (R346). -/
theorem restore_of_inRange {m : Image} (h : m.inRange = true) (s : State) :
    restore m s = .next (render (s.load m)) := if_pos h

/-- Every event with an unconditional effect goes on, in every state (R322). -/
theorem handle_goesOn {e : Event} (he : e.total) (s : State) : goesOn (handle e s) := by
  cases e with
  | clock level => exact clock_goesOn level s
  | submit b => exact submit_goesOn b s
  | restore m => exact ⟨_, restore_of_inRange he s⟩
  | data level | reset level | tick => exact ⟨_, rfl⟩

/-- Settles O7, by whether an event is left: with none the block waits, and any event of the premise goes on. -/
theorem everyEventGoesOn : Obligations.EveryEventGoesOn := by
  intro s htotal
  cases hin : s.inputs with
  | nil => exact ⟨s, step_nil hin⟩
  | cons e rest =>
    rw [step_cons hin]
    exact handle_goesOn (htotal e rest hin) { s with inputs := rest }

end Sys2Proof.Machine
end

section
/-! SUPPORT. Decoding and encoding are inverse: glyph data is the only form of a pending load, every byte below 0x40
is a code byte, and the form read off it is well formed because its tests come in R201's order. -/

namespace Sys2Proof

/-- Glyph data is UGDATA alone (R101). -/
theorem Instr.isGlyphData_iff {i : Instr} : i.isGlyphData = true ↔ ∃ d, i = .ugdata d := by
  cases i <;> simp [Instr.isGlyphData]

/-- Decoding reads the form of the first byte and leaves the rest (R110). -/
theorem decode_cons (c : Chip) (n : Nat) (b : Byte) (rest : List Byte) :
    decode c n (b :: rest) = .ok (decodeByte c n b, rest) := rfl

/-- Settles O1, by whether the form is glyph data: then a load is pending and every byte is its own operand; else
none is, and the decoder undoes the encoder. -/
theorem decodeOfEncodeGivesTheInstruction : Obligations.DecodeOfEncodeGivesTheInstruction := by
  intro c n i rest hwf hpending
  rw [decode_cons]
  cases hg : i.isGlyphData with
  | true =>
    obtain ⟨d, rfl⟩ := Instr.isGlyphData_iff.1 hg
    rw [encode, decodeByte_pending c (hpending.1 hg)]
  | false =>
    have hidle : n = 0 := Nat.eq_zero_of_not_pos fun hn => by simp [hpending.2 hn] at hg
    rw [hidle, decodeByte_encode c hwf hg]

/-- Every control byte's form is well formed (R169). -/
theorem wf_decodeControl (c : Chip) (b : Byte) : (decodeControl b).wf c = true := by
  unfold decodeControl byParameter
  cases b[6] <;> cases b[5] <;> cases b[4] <;> cases b[1] <;> cases b[0] <;> rfl

/-- The form of a code byte is well formed, since each test comes after those of the earlier codes, and encodes back
to it (R201). -/
theorem wf_encode_decodeLowCharacter (c : Chip) (k : CharIx) :
    (decodeLowCharacter c (codeByte k)).wf c = true ∧ encode c (decodeLowCharacter c (codeByte k)) = codeByte k := by
  rw [decodeLowCharacter_codeByte]
  split_ifs with hmark hundef hdp hsemi htrig hdummy
  · exact ⟨rfl, congrArg codeByte hmark.symm⟩
  · exact ⟨by simp_all [Instr.wf], congrArg codeByte hundef.symm⟩
  · exact ⟨by simp_all [Instr.wf], congrArg codeByte hdp.symm⟩
  · exact ⟨by simp_all [Instr.wf], congrArg codeByte hsemi.symm⟩
  · exact ⟨by simp_all [Instr.wf], congrArg codeByte htrig.symm⟩
  · exact ⟨by simp_all [Instr.wf], congrArg codeByte hdummy.symm⟩
  · exact ⟨by simp_all [Instr.wf, Chip.isInBand], rfl⟩

/-- A byte 0x40..0x7F is the CHRX byte of its index (R103). -/
theorem chrxByte_charField {b : Byte} : b[7] = false → b[6] = true → (0b01#2 ++ charField b : Byte) = b := by
  revert b; decide

/-- With no load pending a byte's form is well formed and encodes back to it, by the ranges of R107. -/
theorem wf_encode_decodeByte (c : Chip) (b : Byte) :
    (decodeByte c 0 b).wf c = true ∧ encode c (decodeByte c 0 b) = b := by
  cases h7 : b[7] with
  | true => rw [decodeByte_control c h7]; exact ⟨wf_decodeControl c b, encode_decodeControl c h7⟩
  | false =>
    cases h6 : b[6] with
    | true => rw [decodeByte_chrx c h7 h6]; exact ⟨rfl, chrxByte_charField h7 h6⟩
    | false =>
      have h := wf_encode_decodeLowCharacter c (charField b)
      rwa [codeByte_charField h7 h6, ← decodeByte_low c h7 h6] at h

/-- Settles O2, by whether a load is pending: then the byte is UGDATA's operand, else it lies in one of R107's
ranges. -/
theorem everyByteDecodesAndEncodesBack : Obligations.EveryByteDecodesAndEncodesBack := by
  intro c n b
  obtain ⟨hwf, henc⟩ : (decodeByte c n b).wf c = true ∧ encode c (decodeByte c n b) = b := by
    rcases Nat.eq_zero_or_pos n with rfl | hn
    · exact wf_encode_decodeByte c b
    · rw [decodeByte_pending c hn]; exact ⟨rfl, rfl⟩
  exact ⟨hwf, decodeByte_isGlyphData c n b, henc⟩

/-- Settles O4: each byte is the encoding of its form, which is well formed under every value of the parameters. -/
theorem specExampleBytesDecode : Obligations.SpecExampleBytesDecode := fun c =>
  ⟨decodeByte_pending c (by decide) _, decodeByte_of_eq_encode rfl rfl rfl, decodeByte_of_eq_encode rfl rfl rfl,
    decodeByte_of_eq_encode rfl rfl rfl, decodeByte_of_eq_encode rfl rfl rfl, decodeByte_of_eq_encode rfl rfl rfl,
    decodeByte_of_eq_encode rfl rfl rfl, decodeByte_of_eq_encode rfl rfl rfl, decodeByte_of_eq_encode rfl rfl rfl,
    decodeByte_of_eq_encode rfl rfl rfl, decodeByte_of_eq_encode rfl rfl rfl⟩

end Sys2Proof
end

section
/-! SUPPORT. The invariants every step keeps: what each event does to the ranges, the partial byte, the sinks and the
parameters, from the one lemma that says what an instruction can do. -/

namespace Sys2Proof.Machine

/-- The ranges that do not speak of the receiver, whose count is 8 inside the clock call of a byte (C7). -/
def State.controlInRange (s : State) : Prop := s.flashTimer ≤ 20 ∧ s.ugRemaining ≤ 2 ∧ s.chip.wf

/-- The ranges are the receiver's and the others'. -/
theorem State.inRange_iff {s : State} : s.inRange ↔ s.srCount ≤ 7 ∧ s.controlInRange := by
  rw [State.inRange, State.controlInRange]; tauto

/-- A refresh keeps the timer, the load count and the parameters in range (R50). -/
theorem controlInRange_refresh {s : State} (h : s.controlInRange) : (refresh s).controlInRange := by
  obtain ⟨htimer, hload, hchip⟩ := h
  exact ⟨flashTimer_refresh_le htimer hchip.2, by rwa [refresh_ugRemaining], by rwa [refresh_chip]⟩

/-- What a submitted byte keeps, whatever its form: the ranges, the receiver, the lines, the parameters and the
events to come; and it ends with a refresh (R170). -/
theorem submit_keeps {b : Byte} {s t : State} (h : submit b s = .next t) :
    (s.controlInRange → t.controlInRange) ∧ t.srCount = s.srCount ∧ t.srAcc = s.srAcc
      ∧ t.clkLevel = s.clkLevel ∧ t.dataLevel = s.dataLevel ∧ t.chip = s.chip ∧ t.inputs = s.inputs
      ∧ ∃ u, t = refresh u := by
  obtain ⟨u, hu, hkeeps, htimer, hload, -⟩ := submit_cases b s
  obtain rfl : refresh u = t := by simpa [hu] using h
  refine ⟨fun ⟨ht, hl, hc⟩ => controlInRange_refresh ⟨?_, hload hl, hkeeps.chip ▸ hc⟩, ?_, ?_, ?_, ?_, ?_, ?_, u, rfl⟩
  · rcases htimer with e | e <;> omega
  all_goals simp [hkeeps.srCount, hkeeps.srAcc, hkeeps.clkLevel, hkeeps.dataLevel, hkeeps.chip, hkeeps.inputs]

/-- A restore goes on exactly in range, and then it is one render of the loaded state (R346, D32). -/
theorem restore_eq_next_iff {m : Image} {s t : State} :
    restore m s = .next t ↔ m.inRange = true ∧ t = render (s.load m) := by
  refine ⟨fun h => ?_, fun ⟨hm, ht⟩ => ht ▸ restore_of_inRange hm s⟩
  unfold restore at h
  split at h
  case isTrue hm => cases h; exact ⟨hm, rfl⟩
  case isFalse => cases h

/-- The ranges of an image (R30). -/
theorem Image.inRange_iff {m : Image} : m.inRange = true ↔
    m.cursorPos ≤ 15 ∧ m.pcursorPos ≤ 15 ∧ m.winStart ≤ 15 ∧ m.winEnd ≤ 15 ∧ m.flashRate ≤ 15
      ∧ m.flashTimer ≤ 20 ∧ m.ugRemaining ≤ 2 ∧ m.srCount ≤ 7 := decide_eq_true_iff

/-- A clock call keeps the ranges: a sampled bit short of the eighth counts up to 7 at most, and the eighth leaves the
count at 0 (R133). -/
theorem clock_inRange {level : Bool} {s t : State} (hs : s.inRange) (h : clock level s = .next t) : t.inRange := by
  obtain ⟨hcount, hcontrol⟩ := State.inRange_iff.1 hs
  rw [State.inRange_iff]
  rcases clock_cases level s with ⟨-, e⟩ | ⟨-, hbit, e⟩ | ⟨-, -, u, hu, e⟩ <;> rw [e] at h <;> cases h
  · exact ⟨(refresh_srCount _).trans_le hcount, controlInRange_refresh hcontrol⟩
  · exact ⟨(refresh_srCount _).trans_le (show s.srCount + 1 ≤ 7 by omega), controlInRange_refresh hcontrol⟩
  · exact ⟨(refresh_srCount _).trans_le (Nat.zero_le 7), controlInRange_refresh ((submit_keeps hu).1 hcontrol)⟩

/-- Settles O53, event by event. -/
theorem everyStepKeepsTheRanges : Obligations.EveryStepKeepsTheRanges := by
  intro s t hs h
  cases hin : s.inputs with
  | nil => rw [step_nil hin] at h; cases h; exact hs
  | cons e rest =>
    rw [step_cons hin] at h
    obtain ⟨hcount, hcontrol⟩ := State.inRange_iff.1 hs
    cases e with
    | clock level => exact clock_inRange (s := { s with inputs := rest }) hs h
    | data level => cases h; exact hs
    | reset level =>
      cases level <;> cases h
      · exact State.inRange_iff.2 ⟨Nat.zero_le 7, Nat.zero_le 20, Nat.zero_le 2, hcontrol.2.2⟩
      · exact hs
    | tick => cases h; exact State.inRange_iff.2 ⟨(refresh_srCount _).trans_le hcount, controlInRange_refresh hcontrol⟩
    | submit b =>
      obtain ⟨hrange, hsr, -⟩ := submit_keeps h
      exact State.inRange_iff.2 ⟨hsr.trans_le hcount, hrange hcontrol⟩
    | restore m =>
      obtain ⟨hm, rfl⟩ := restore_eq_next_iff.1 h
      obtain ⟨-, -, -, -, -, htimer, hload, hsr⟩ := Image.inRange_iff.1 hm
      exact State.inRange_iff.2 ⟨hsr, htimer, hload, hcontrol.2.2⟩

/-- A bit shifted into an accumulator of `n` bits leaves one of `n + 1` (R132). -/
theorem toNat_shiftIn_lt {acc bit : Byte} {n : Nat} (hacc : acc.toNat < 2 ^ n) (hbit : bit.toNat ≤ 1) :
    (acc <<< 1 ||| bit).toNat < 2 ^ (n + 1) := by
  rw [BitVec.toNat_or]
  refine Nat.or_lt_two_pow ?_ (Nat.lt_of_le_of_lt hbit (Nat.one_lt_two_pow (Nat.succ_ne_zero n)))
  calc (acc <<< 1).toNat ≤ acc.toNat <<< 1 := by rw [BitVec.toNat_shiftLeft]; exact Nat.mod_le _ _
    _ < 2 ^ (n + 1) := by rw [Nat.shiftLeft_eq, Nat.pow_succ]; omega

/-- A sampled bit stays in the low bits that the count names (R132). -/
theorem receiverAligned_sampleBit {s : State} (h : s.receiverAligned) : (sampleBit s).receiverAligned :=
  toNat_shiftIn_lt h (by split <;> decide)

/-- Alignment speaks of the accumulator and the count alone. -/
theorem receiverAligned_congr {s t : State} (hacc : t.srAcc = s.srAcc) (hcount : t.srCount = s.srCount) :
    t.receiverAligned ↔ s.receiverAligned := by
  rw [State.receiverAligned, State.receiverAligned, hacc, hcount]

/-- A refresh does not touch the receiver. -/
@[simp] theorem receiverAligned_refresh {s : State} : (refresh s).receiverAligned ↔ s.receiverAligned :=
  receiverAligned_congr (refresh_srAcc s) (refresh_srCount s)

/-- An empty accumulator is aligned at every count. -/
theorem receiverAligned_of_srAcc_zero {s : State} (h : s.srAcc = 0#8) : s.receiverAligned := by
  rw [State.receiverAligned, h]; exact Nat.two_pow_pos _

/-- Settles O55: a sampled bit is shifted into the low bits, a completed byte and a reset leave the accumulator
empty, and no other event but a restore writes it. -/
theorem everyStepKeepsTheReceiverAligned : Obligations.EveryStepKeepsTheReceiverAligned := by
  intro s t _ hs hnot h
  cases hin : s.inputs with
  | nil => rw [step_nil hin] at h; cases h; exact hs
  | cons e rest =>
    rw [step_cons hin] at h
    cases e with
    | clock level =>
      rcases clock_cases level { s with inputs := rest } with ⟨-, e⟩ | ⟨-, -, e⟩ | ⟨-, -, u, -, e⟩ <;>
        rw [handle, e] at h <;> cases h <;> refine receiverAligned_refresh.2 ?_
      · exact hs
      · exact receiverAligned_sampleBit (s := { s with inputs := rest }) hs
      · exact receiverAligned_of_srAcc_zero rfl
    | data level => cases h; exact hs
    | reset level =>
      cases level <;> cases h
      · exact receiverAligned_of_srAcc_zero rfl
      · exact hs
    | tick => cases h; exact receiverAligned_refresh.2 hs
    | submit b =>
      obtain ⟨-, hcount, hacc, -⟩ := submit_keeps h
      exact (receiverAligned_congr hacc hcount).2 hs
    | restore m => exact absurd ⟨m, rest, hin⟩ hnot

/-- A render makes every sink show its cell (R250). -/
theorem sinksShowCells_render (s : State) : (render s).sinksShowCells := sink_render s

/-- A refresh ends with a render, so every sink then shows its cell (R252). -/
theorem sinksShowCells_refresh (s : State) : (refresh s).sinksShowCells := sinksShowCells_render (flashStep s)

/-- After a reset every cell is dark and every sink is 0: REMAP of pattern 0 is 0 for every PERM (R53, R303). -/
theorem sinksShowCells_reinitialized (s : State) : s.reinitialized.sinksShowCells := by
  have hdark : ∀ c : Chip, remap c 0#16 = 0#16 := fun c => by simp [remap, bitPositions, bitAt, assignBit]
  intro i
  have hcell : s.reinitialized.cell i = { pattern := 0#16, attr := .normal } := Vector.getElem_replicate i.isLt
  have hsink : s.reinitialized.sink i = 0#16 := Vector.getElem_replicate i.isLt
  simp [State.attr, State.pat, hcell, hsink, hdark]

/-- Settles O56: every event but a data level and a reset ends with a render, a data level touches neither cells nor
sinks, and a reset makes both dark. -/
theorem everyStepKeepsSinksShowingCells : Obligations.EveryStepKeepsSinksShowingCells := by
  intro s t hs h
  cases hin : s.inputs with
  | nil => rw [step_nil hin] at h; cases h; exact hs
  | cons e rest =>
    rw [step_cons hin] at h
    cases e with
    | clock level =>
      rcases clock_cases level { s with inputs := rest } with ⟨-, e⟩ | ⟨-, -, e⟩ | ⟨-, -, u, -, e⟩ <;>
        rw [handle, e] at h <;> cases h <;> exact sinksShowCells_refresh _
    | data level => cases h; exact hs
    | reset level =>
      cases level <;> cases h
      · exact sinksShowCells_reinitialized _
      · exact hs
    | tick => cases h; exact sinksShowCells_refresh _
    | submit b =>
      obtain ⟨-, -, -, -, -, -, -, u, rfl⟩ := submit_keeps h
      exact sinksShowCells_refresh u
    | restore m =>
      obtain ⟨-, rfl⟩ := restore_eq_next_iff.1 h
      exact sinksShowCells_render _

/-- Settles O57, event by event: the refresh, the receiver and the submitted byte keep the parameters, and so do a
reset and a restore. -/
theorem noStepWritesTheParameters : Obligations.NoStepWritesTheParameters := by
  intro s t h
  cases hin : s.inputs with
  | nil => rw [step_nil hin] at h; cases h; rfl
  | cons e rest =>
    rw [step_cons hin] at h
    cases e with
    | clock level =>
      rcases clock_cases level { s with inputs := rest } with ⟨-, e⟩ | ⟨-, -, e⟩ | ⟨-, -, u, hu, e⟩ <;>
        rw [handle, e] at h <;> cases h <;> refine (refresh_chip _).trans ?_
      · rfl
      · rfl
      · obtain ⟨-, -, -, -, -, hchip, -⟩ := submit_keeps hu
        exact hchip
    | data level => cases h; rfl
    | reset level => cases level <;> cases h <;> rfl
    | tick => cases h; exact refresh_chip _
    | submit b =>
      obtain ⟨-, -, -, -, -, hchip, -⟩ := submit_keeps h
      exact hchip
    | restore m =>
      obtain ⟨-, rfl⟩ := restore_eq_next_iff.1 h
      rfl

/-- Config's parameters are allowed ones: PERM is a permutation there, and the reload is 20 (R10, R11). -/
theorem wf_config_chip : Config.chip.wf := by
  refine ⟨fun i j hij => Config.perm.injective ?_, Nat.le_refl 20⟩
  simpa [Config.chip, Vector.get_ofFn] using hij

/-- Settles O54: the counts are 0, the accumulator is empty, and a reset makes cells and sinks dark. -/
theorem resetMeetsTheInvariants : Obligations.ResetMeetsTheInvariants :=
  ⟨State.inRange_iff.2 ⟨Nat.zero_le 7, Nat.zero_le 20, Nat.zero_le 2, wf_config_chip⟩,
    receiverAligned_of_srAcc_zero rfl, sinksShowCells_reinitialized State.reset⟩

end Sys2Proof.Machine
end

section
/-! SUPPORT. Single events: the submitted byte, the data level, reset and restore; and the state after reset. -/

namespace Sys2Proof.Machine

/-- A byte event's step submits the byte, in the state with the event taken off. -/
theorem step_submit {s : State} {b : Byte} {rest : List Event} (h : s.inputs = .submit b :: rest) :
    step s = submit b { s with inputs := rest } := step_cons h

/-- The byte `withFetchWord` puts first is the next event, and taking it off gives the state back. -/
theorem step_withFetchWord (s : State) (nbits w : Nat) :
    step (s.withFetchWord nbits w) = submit (BitVec.ofNat 8 w) s := step_submit rfl

/-- Submitting a byte executes the form it decodes to (R150). -/
theorem submit_of_decode {s : State} {b : Byte} {i : Instr} {tail : List Byte}
    (h : decode s.chip s.ugRemaining [b] = .ok (i, tail)) : submit b s = exec i s := by
  rw [decode_cons] at h
  cases h
  rfl

/-- Settles O5: the next event's byte is submitted, and `withFetchWord` makes its byte the next event. -/
theorem stepRunsTheDecodedInstruction : Obligations.StepRunsTheDecodedInstruction := by
  refine ⟨fun s b rest i tail hin hdec => ?_, fun s w i hdec => ?_⟩
  · rw [step_submit hin]; exact submit_of_decode hdec
  · rw [step_withFetchWord]; exact submit_of_decode hdec

/-- Settles O6. -/
theorem blockWaitsForTheNextEvent : Obligations.BlockWaitsForTheNextEvent := fun _ => step_nil

/-- Settles O10: the step is the data call. -/
theorem dataStoresTheLevelOnly : Obligations.DataStoresTheLevelOnly := by
  intro s level rest hin
  rw [step_cons hin, handle, data]

/-- Settles O13: a reset call keeps the state at a high level and reinitializes it at a low one. -/
theorem resetEventReinitializes : Obligations.ResetEventReinitializes := by
  refine fun s rest => ⟨fun hin => ?_, fun hin => ?_⟩
  · rw [step_cons hin, handle, reset, if_pos rfl]
  · rw [step_cons hin, handle, reset, if_neg Bool.false_ne_true, State.reinitialized]

/-- Every cell is empty and Normal after reset (R53). -/
theorem cell_reset (i : CellIx) : State.reset.cell i = { pattern := 0#16, attr := .normal } :=
  Vector.getElem_replicate i.isLt

/-- Every sink is 0 after reset (R53, D6). -/
theorem sink_reset (i : CellIx) : State.reset.sink i = 0#16 := Vector.getElem_replicate i.isLt

/-- Settles O12: the cells and sinks are those of the reset state's replicated entries, and every register is its
field. -/
theorem resetStateIsTheTable : Obligations.ResetStateIsTheTable :=
  ⟨fun i => ⟨congrArg Cell.pattern (cell_reset i), congrArg Cell.attr (cell_reset i), sink_reset i⟩,
    rfl, rfl, rfl, rfl, rfl, rfl, rfl, rfl, rfl, rfl, rfl, rfl, rfl, rfl, rfl, rfl, rfl, rfl⟩

/-- A number of 0..15 is kept by its four bits. -/
theorem nibble_toNat_ofNat {n : Nat} (h : n ≤ 15) : (BitVec.ofNat 4 n).toNat = n :=
  (BitVec.toNat_ofNat n 4).trans (Nat.mod_eq_of_lt (by omega))

/-- The image of an in-range state is in range (R30, R50). -/
theorem inRange_save {s : State} (h : s.inRange) : s.save.inRange = true := by
  obtain ⟨htimer, hload, hcount, -⟩ := h
  have hnibble : ∀ n : Nibble, n.toNat ≤ 15 := fun n => Nat.le_of_lt_succ n.isLt
  exact Image.inRange_iff.2
    ⟨hnibble _, hnibble _, hnibble _, hnibble _, hnibble _, htimer, hload, hcount⟩

/-- Loading a state's own image gives the state back. -/
theorem load_save (s : State) : s.load s.save = s := by simp [State.load, State.save]

/-- Settles O15: in range, a restore is the render of the loaded state, whose nibbles keep the image's numbers; the
image of an in-range state is in range and loads that state. -/
theorem restoreLoadsAndRenders : Obligations.RestoreLoadsAndRenders := by
  refine ⟨fun s m rest hin => ⟨fun hm => ?_, fun hm => ?_⟩, fun s rest hs hin => ?_⟩ <;>
    rw [step_cons hin, handle]
  · obtain ⟨hcursor, hpcursor, hstart, hend, hrate, -⟩ := Image.inRange_iff.1 hm
    refine ⟨_, restore_of_inRange hm _, fun i => rfl, nibble_toNat_ofNat hcursor, nibble_toNat_ofNat hpcursor,
      nibble_toNat_ofNat hstart, nibble_toNat_ofNat hend, ?_, rfl, rfl, nibble_toNat_ofNat hrate,
      rfl, rfl, rfl, rfl, rfl, rfl, rfl, rfl, rfl, rfl, rfl, rfl, sinksShowCells_render _⟩
    show ((BitVec.ofNat 4 m.winEnd).toNat : Int) - ((BitVec.ofNat 4 m.winStart).toNat : Int) + 1 = _
    rw [nibble_toNat_ofNat hstart, nibble_toNat_ofNat hend]
  · exact if_neg (Bool.eq_false_iff.1 hm)
  · have hload : ({ s with inputs := rest } : State).load s.save = { s with inputs := rest } :=
      load_save { s with inputs := rest }
    rw [restore_of_inRange (inRange_save hs), hload]

end Sys2Proof.Machine
end

section
/-! SUPPORT. The window's size, and the commands that write one setting: mode, flash rate, flash control. -/

namespace Sys2Proof.Machine

/-- Settles O22: the ends are nibbles, and a window is valid when its start is not beyond its end. -/
theorem windowIsValidWhenOrdered : Obligations.WindowIsValidWhenOrdered := by
  intro s
  have hstart : s.winStart.toNat < 16 := s.winStart.isLt
  have hend : s.winEnd.toNat < 16 := s.winEnd.isLt
  refine ⟨rfl, ?_, ?_, decide_eq_true_iff, winValid_iff⟩ <;> rw [State.winSize] <;> omega

/-- Settles O24: each byte is the encoding of its form, and each form's meaning is the one write. -/
theorem modeCommandsSetTheMode : Obligations.ModeCommandsSetTheMode :=
  ⟨fun _ _ => ⟨fun hb => decodeByte_of_eq_encode (eq_append_of_mask_F3 hb) rfl rfl,
      fun hb => decodeByte_of_eq_encode (eq_append_of_mask_F3 hb) rfl rfl,
      fun hb => decodeByte_of_eq_encode (eq_append_of_mask_F3 hb) rfl rfl,
      fun hb => decodeByte_of_eq_encode (eq_append_of_mask_F3 hb) rfl rfl⟩,
    fun _ _ => ⟨rfl, rfl, rfl, rfl⟩⟩

/-- "Stop flashing" clears the flag, whether it was set or not (D25). -/
theorem stopFlashing_eq (s : State) : s.stopFlashing = { s with flashing := false } := by
  unfold State.stopFlashing
  split
  case isTrue => rfl
  case isFalse h => rw [← Bool.eq_false_iff.2 h]

/-- What FRATE answers (R162). -/
theorem exec_frate (n : Nibble) (s : State) :
    exec (.frate n) s = .next (refresh
      { s with flashRate := n, flashTimer := 20, flashing := if n = 0#4 then false else s.flashing }) := by
  rw [exec, execFrate]
  by_cases hn : n = 0#4
  · simp only [hn, if_true, stopFlashing_eq]; rfl
  · simp only [hn, if_false]; rfl

/-- A refresh with the timer at 2 or more counts down and leaves cells, rate and flag (R242). -/
theorem refresh_of_two_le {s : State} (h : 2 ≤ s.flashTimer) :
    refresh s = render { s with flashTimer := s.flashTimer - 1 } := refresh_of_ne_one (by omega)

/-- Settles O25: the byte is the encoding of FRATE, whose own refresh is the timer's first count. -/
theorem frateSetsRateAndTimer : Obligations.FrateSetsRateAndTimer := by
  refine ⟨fun c b hb => decodeByte_of_eq_encode (eq_append_of_mask_F0 hb) rfl rfl, fun s n =>
    ⟨exec_frate n s, _, exec_frate n s, ?_⟩⟩
  rw [refresh_of_two_le (show 2 ≤ 20 by decide)]
  exact ⟨rfl, rfl, fun i => rfl, rfl⟩

/-- Settles O26: the byte is the encoding of FCTL.NONE, which stops flashing in the state with the control set. -/
theorem fctlNoneStopsFlashing : Obligations.FctlNoneStopsFlashing := by
  refine ⟨fun c b hb => decodeByte_of_eq_encode (eq_append_of_mask_F3 hb) rfl rfl, fun s x => ?_⟩
  rw [exec, execFctlNone, stopFlashing_eq, endByte]

/-- Settles O27: each byte is the encoding of its form, and each form's meaning is the one write. -/
theorem fctlSetsTheControl : Obligations.FctlSetsTheControl :=
  ⟨fun _ _ => ⟨fun hb => decodeByte_of_eq_encode (eq_append_of_mask_F3 hb) rfl rfl,
      fun hb => decodeByte_of_eq_encode (eq_append_of_mask_F3 hb) rfl rfl,
      fun hb => decodeByte_of_eq_encode (eq_append_of_mask_F3 hb) rfl rfl⟩,
    fun _ _ => ⟨rfl, rfl, rfl⟩⟩

end Sys2Proof.Machine
end

section
/-! SUPPORT. BLNK.ALL, BLNK.OFF and the clear commands: what each writes to the cells and leaves unchanged. -/

namespace Sys2Proof.Machine

/-- A write of attributes over a range changes cells alone. -/
theorem setAttrsOn_eq_withCells (s : State) (range : CellIx → Bool) (a : Attr) :
    s.setAttrsOn range a = { s with cells := (s.setAttrsOn range a).cells } := rfl

/-- A write of attributes to cells 0..14 keeps the patterns and cell 15 (R271, R274). -/
theorem pat_attr_setAttrsOn_allButLast (s : State) (a : Attr) (i : CellIx) :
    (s.setAttrsOn allButLast a).pat i = s.pat i
      ∧ (s.setAttrsOn allButLast a).attr i = if i.val ≤ 14 then a else s.attr i := by
  refine ⟨State.pat_setAttrsOn s allButLast a i, ?_⟩
  simp only [State.attr_setAttrsOn, allButLast, decide_eq_true_iff]

/-- The BLNK.ALL byte with unused bits 01 is 0x84, and no other of the form is (R275). -/
theorem blnkAllByte_eq_84_iff (c : Chip) (x : Unused) : encode c (.blnkAll x) = 0x84#8 ↔ x = 1#2 := by
  dsimp only [encode]; revert x; decide

/-- What BLNK.ALL answers: the byte 0x84 appends its notice first (R271, R275). -/
theorem exec_blnkAll (x : Unused) (s : State) :
    exec (.blnkAll x) s = .next (refresh (({ s with
      diags := if encode s.chip (.blnkAll x) = 0x84#8 then s.diags ++ [.dutyControl 0x84#8] else s.diags }
        : State).setAttrsOn allButLast .blank)) := by
  rw [exec, execBlnkAll, endByte]
  simp only [blnkAllByte_eq_84_iff]
  split <;> rfl

/-- Settles O30: both forms write the attributes of cells 0..14, BLNK.ALL after its notice. -/
theorem blankAllAndOffKeepCellFifteen : Obligations.BlankAllAndOffKeepCellFifteen := by
  refine ⟨fun c b => ⟨fun hb => decodeByte_of_eq_encode (eq_append_of_mask_F3 hb) rfl rfl,
      fun hb => decodeByte_of_eq_encode (eq_append_of_mask_F3 hb) rfl rfl⟩,
    fun s x => ⟨⟨_, exec_blnkAll x s, setAttrsOn_eq_withCells _ _ _, fun i => ?_⟩,
      ⟨_, rfl, setAttrsOn_eq_withCells _ _ _, fun i => pat_attr_setAttrsOn_allButLast s .normal i⟩⟩⟩
  exact pat_attr_setAttrsOn_allButLast _ .blank i

/-- CLR.WIN's range in a valid window: from its start to its end, end included (R278). -/
theorem State.windowCells_iff {s : State} (i : CellIx) :
    s.windowCells i = true ↔ s.winStart.toNat ≤ i.val ∧ i.val ≤ s.winEnd.toNat := by
  rw [State.windowCells, decide_eq_true_iff, State.winSize]
  omega

section
variable (range : State → CellIx → Bool) (s : State)

/-- A guarded clear changes cells alone. -/
theorem ifWindowValid_clearOn_eq_withCells :
    ifWindowValid (fun t => t.clearOn (range t)) s
      = { s with cells := (ifWindowValid (fun t => t.clearOn (range t)) s).cells } := by
  by_cases h : s.winValid = true
  · rw [ifWindowValid_of_valid h]; rfl
  · rw [ifWindowValid_of_invalid h]

/-- A guarded clear zeroes the cells of its range, and those only with a valid window. -/
theorem cell_ifWindowValid_clearOn (i : CellIx) :
    (ifWindowValid (fun t => t.clearOn (range t)) s).cell i
      = if s.winValid = true ∧ range s i = true then { pattern := 0#16, attr := .normal } else s.cell i := by
  by_cases h : s.winValid = true
  · simp only [ifWindowValid_of_valid h, State.cell_clearOn, h, true_and]
  · rw [ifWindowValid_of_invalid h, if_neg (mt And.left h)]

end

/-- What CLR.WIN answers (R278). -/
theorem exec_clrWin (x : Unused) (s : State) :
    exec (.clrWin x) s = .next (refresh (ifWindowValid (fun t => t.clearOn t.windowCells) s)) := rfl

/-- What CLR.OUT answers (R279). -/
theorem exec_clrOut (x : Unused) (s : State) :
    exec (.clrOut x) s = .next (refresh (ifWindowValid (fun t => t.clearOn t.outsideRange) s)) := rfl

/-- Settles O33: CLR.WIN and CLR.OUT are guarded clears of their ranges, CLR.ALL a clear of every cell. -/
theorem clearCommandsZeroTheirCells : Obligations.ClearCommandsZeroTheirCells := by
  refine ⟨fun c b => ⟨fun hb => decodeByte_of_eq_encode (eq_append_of_mask_F3 hb) rfl rfl,
      fun hb => decodeByte_of_eq_encode (eq_append_of_mask_F3 hb) rfl rfl,
      fun hb => decodeByte_of_eq_encode (eq_append_of_mask_F3 hb) rfl rfl,
      fun hb => decodeByte_of_eq_encode (eq_append_of_mask_F3 hb) rfl rfl⟩, fun s x => ⟨rfl,
    ⟨_, exec_clrWin x s, ifWindowValid_clearOn_eq_withCells State.windowCells s, fun i => ?_⟩,
    ⟨_, exec_clrOut x s, ifWindowValid_clearOn_eq_withCells State.outsideRange s, fun i => ?_⟩,
    ⟨_, rfl, rfl, fun i => State.cell_clearOn s (fun _ => true) i⟩⟩⟩
  · rw [cell_ifWindowValid_clearOn State.windowCells]
    simp only [State.windowCells_iff]
  · rw [cell_ifWindowValid_clearOn State.outsideRange]
    simp only [State.outsideRange_iff]

end Sys2Proof.Machine
end

section
/-! SUPPORT. The character bytes and the in-band codes: their notices, and the state whose refresh each form
answers. -/

namespace Sys2Proof.Machine

/-- A byte above 0x3F, or with a placeholder's index, appends its notice (R150, R321). -/
theorem noteCharacter_of_out {b : Byte} {s : State} (h : 0x3F#8 < b ∨ Chip.isPlaceholder s.chip (charField b) = true) :
    noteCharacter b s = { s with diags := s.diags ++ [.outOfRangeChar b] } := if_pos h

/-- Any other byte appends nothing (R150, R321). -/
theorem noteCharacter_of_in {b : Byte} {s : State} (hb : b ≤ 0x3F#8)
    (hk : Chip.isPlaceholder s.chip (charField b) = false) : noteCharacter b s = s :=
  if_neg fun h => h.elim (BitVec.not_lt.2 hb) (by simp [hk])

/-- Settles O34: the two cases of the notice. -/
theorem characterNoticeIsOutOfRange : Obligations.CharacterNoticeIsOutOfRange :=
  fun _ _ => ⟨noteCharacter_of_out, noteCharacter_of_in⟩

/-- A notice changes no cell (R320). -/
@[simp] theorem noteCharacter_cell (b : Byte) (s : State) (j : CellIx) : (noteCharacter b s).cell j = s.cell j :=
  State.cell_congr (noteCharacter_cells b s) j

/-- A notice changes no pattern (R320). -/
@[simp] theorem noteCharacter_pat (b : Byte) (s : State) (j : CellIx) : (noteCharacter b s).pat j = s.pat j := by
  rw [State.pat, noteCharacter_cell, State.pat]

/-- The effective mode depends on the mode and the window alone (R210). -/
theorem effectiveMode_congr {s t : State} (hmode : t.mode = s.mode) (hstart : t.winStart = s.winStart)
    (hend : t.winEnd = s.winEnd) : t.effectiveMode = s.effectiveMode := by
  have hvalid : t.winValid = s.winValid := by rw [Bool.eq_iff_iff, winValid_iff, winValid_iff, hstart, hend]
  rw [State.effectiveMode, State.effectiveMode, hvalid, hmode]

/-- A notice does not change the effective mode (R320). -/
@[simp] theorem noteCharacter_effectiveMode (b : Byte) (s : State) :
    (noteCharacter b s).effectiveMode = s.effectiveMode :=
  effectiveMode_congr (noteCharacter_mode b s) (noteCharacter_winStart b s) (noteCharacter_winEnd b s)

/-- The flash-mark arm on a marked cell is a move that writes nothing (R202, D12). -/
theorem flashMarkArm_of_marked {s : State} (h : bitAt (s.pat (cellIx s.pcursorPos)) s.chip.flashMarkBit = true)
    (seg : Word) : flashMarkArm seg s = move seg false s := if_pos h

/-- The flash-mark arm on an unmarked cell marks it and gives it the Flash attribute (R202). -/
theorem flashMarkArm_of_unmarked {s : State}
    (h : bitAt (s.pat (cellIx s.pcursorPos)) s.chip.flashMarkBit = false) (seg : Word) :
    flashMarkArm seg s = s.setCells fun j =>
      if j = cellIx s.pcursorPos then { pattern := s.pat j ||| bitMask s.chip.flashMarkBit, attr := .flash }
      else s.cell j := if_neg (Bool.eq_false_iff.1 h)

/-- The point arm on a pointed cell is a move that writes nothing (R204, D12). -/
theorem decimalPointArm_of_pointed {s : State} (h : bitAt (s.pat (cellIx s.pcursorPos)) s.chip.dpBit = true)
    (seg : Word) : decimalPointArm seg s = move seg false s := if_pos h

/-- The point arm on any other cell sets the point (R204, D13). -/
theorem decimalPointArm_of_unpointed {s : State} (h : bitAt (s.pat (cellIx s.pcursorPos)) s.chip.dpBit = false)
    (seg : Word) : decimalPointArm seg s
      = s.setPat (cellIx s.pcursorPos) (s.pat (cellIx s.pcursorPos) ||| bitMask s.chip.dpBit) :=
  if_neg (Bool.eq_false_iff.1 h)

/-- What FMARK answers (R202). -/
theorem exec_fmark (s : State) :
    exec .fmark s = .next (refresh (flashMarkArm (Chip.pattern s.chip s.chip.flashMarkCode)
      (noteCharacter (codeByte s.chip.flashMarkCode) s))) := rfl

/-- Settles O35: FMARK is the flash-mark arm after its notice, which touches neither cells nor cursors. -/
theorem fmarkMarksOrMoves : Obligations.FmarkMarksOrMoves := by
  intro s p seg noted
  have hp : cellIx noted.pcursorPos = p := congrArg cellIx (noteCharacter_pcursorPos _ s)
  have hbit : bitAt (noted.pat (cellIx noted.pcursorPos)) noted.chip.flashMarkBit
      = (s.pat p).getLsbD s.chip.flashMarkBit.val := by
    rw [hp, noteCharacter_pat, noteCharacter_chip, bitAt]
  refine ⟨decodeByte_of_eq_encode rfl rfl rfl, fun hmarked => ?_, fun hunmarked => ?_⟩
  · rw [exec_fmark]
    exact congrArg (Host.Outcome.next ∘ refresh) (flashMarkArm_of_marked (hbit.trans hmarked) seg)
  · refine ⟨_, exec_fmark s, ?_⟩
    have harm := flashMarkArm_of_unmarked (hbit.trans hunmarked) seg
    rw [hp] at harm
    have hcell : ∀ i, (flashMarkArm seg noted).cell i =
        if i = p then { pattern := s.pat i ||| bitMask s.chip.flashMarkBit, attr := .flash } else s.cell i := by
      intro i
      rw [harm, State.cell_setCells, noteCharacter_pat, noteCharacter_chip, noteCharacter_cell]
    refine ⟨?_, ?_, ?_, fun i hi => (hcell i).trans (if_neg hi)⟩
    · exact harm ▸ rfl
    · exact congrArg Cell.pattern ((hcell p).trans (if_pos rfl))
    · exact congrArg Cell.attr ((hcell p).trans (if_pos rfl))

/-- What DPT answers (R204). -/
theorem exec_dpt (s : State) :
    exec .dpt s = .next (refresh (decimalPointArm (Chip.pattern s.chip s.chip.dpCode)
      (noteCharacter (codeByte s.chip.dpCode) s))) := rfl

/-- What SEMI answers (R205). -/
theorem exec_semi (s : State) :
    exec .semi s = .next (refresh (decimalPointArm (Chip.pattern s.chip s.chip.semiCode)
      (noteCharacter (codeByte s.chip.semiCode) s))) := rfl

section
variable {s : State} (seg : Word) (b : Byte)

/-- The point arm after a notice, on a pointed cell (R204, R320). -/
theorem decimalPointArm_noted_of_pointed (h : bitAt (s.pat (cellIx s.pcursorPos)) s.chip.dpBit = true) :
    decimalPointArm seg (noteCharacter b s) = move seg false (noteCharacter b s) :=
  decimalPointArm_of_pointed (by simpa using h) seg

/-- The point arm after a notice, on any other cell (R204, R320). -/
theorem decimalPointArm_noted_of_unpointed (h : bitAt (s.pat (cellIx s.pcursorPos)) s.chip.dpBit = false) :
    decimalPointArm seg (noteCharacter b s) = (noteCharacter b s).setPat (cellIx s.pcursorPos)
      (s.pat (cellIx s.pcursorPos) ||| bitMask s.chip.dpBit) := by
  simpa using decimalPointArm_of_unpointed (s := noteCharacter b s) (by simpa using h) seg

end

/-- Settles O37: DPT and SEMI are the point arm after their notice. -/
theorem dptAndSemiPointOrMove : Obligations.DptAndSemiPointOrMove := by
  intro s p
  rw [exec_dpt, exec_semi]
  refine ⟨⟨fun hc => decodeByte_of_eq_encode rfl (by simpa [Instr.wf] using hc) rfl,
    fun hc => decodeByte_of_eq_encode rfl (by simpa [Instr.wf, and_assoc] using hc) rfl⟩,
    fun hpointed => ?_, fun hunpointed => ?_⟩
  · rw [decimalPointArm_noted_of_pointed _ _ hpointed, decimalPointArm_noted_of_pointed _ _ hpointed]
    exact ⟨rfl, rfl⟩
  · rw [decimalPointArm_noted_of_unpointed _ _ hunpointed, decimalPointArm_noted_of_unpointed _ _ hunpointed]
    exact ⟨rfl, rfl⟩

/-- Settles O38: each byte is the encoding of its form, and each form is its arm after the byte's notice. -/
theorem ugtrigLoadsAndDummyMoves : Obligations.UgtrigLoadsAndDummyMoves := fun s =>
  ⟨fun hc => decodeByte_of_eq_encode rfl (by simpa [Instr.wf, and_assoc] using hc) rfl,
    fun hc => decodeByte_of_eq_encode rfl (by simpa [Instr.wf, and_assoc] using hc) rfl, rfl, rfl⟩

/-- What CHR answers (R153, R208). -/
theorem exec_chr (k : CharIx) (s : State) :
    exec (.chr k) s = .next (refresh (move (Chip.pattern s.chip k) true (noteCharacter (codeByte k) s))) := rfl

/-- What CHRX answers (R153, R208). -/
theorem exec_chrx (k : CharIx) (s : State) :
    exec (.chrx k) s = .next (refresh (move (Chip.pattern s.chip k) true (noteCharacter (0b01#2 ++ k) s))) := rfl

/-- What DUMMY answers (R207). -/
theorem exec_dummy (s : State) :
    exec .dummy s = .next (refresh (move (Chip.pattern s.chip s.chip.dummyCode) false
      (noteCharacter (codeByte s.chip.dummyCode) s))) := rfl

/-- Every CHRX byte is above 0x3F (R153). -/
theorem lt_chrxByte (k : CharIx) : 0x3F#8 < (0b01#2 ++ k : Byte) := by revert k; decide

/-- Settles O39: a CHRX byte is above 0x3F, and a CHR byte notes exactly for a placeholder. -/
theorem charactersWriteTheirEntry : Obligations.CharactersWriteTheirEntry := by
  refine ⟨fun c k => ⟨decodeByte_of_eq_encode rfl rfl rfl, fun hk => decodeByte_of_eq_encode rfl ?_ rfl⟩,
    fun s k => ?_⟩
  · simpa [Instr.wf, Chip.isInBand, and_assoc] using hk
  intro entry
  refine ⟨?_, fun hk => ?_, fun hk => ?_⟩
  · rw [exec_chrx, noteCharacter_of_out (.inl (lt_chrxByte k))]; rfl
  · rw [exec_chr, noteCharacter_codeByte, Chip.isPlaceholder, if_pos hk]; rfl
  · rw [exec_chr, noteCharacter_codeByte, Chip.isPlaceholder, if_neg (Bool.eq_false_iff.1 hk)]; rfl

/-- What UGDATA answers with two bytes or more pending (R151). -/
theorem exec_ugdata_of_two_le {s : State} (h : 2 ≤ s.ugRemaining) (d : Byte) :
    exec (.ugdata d) s
      = .next (refresh { s with ugRemaining := s.ugRemaining - 1, ugAcc := glyphShift s.ugAcc d }) := by
  obtain ⟨n, hn⟩ : ∃ n, s.ugRemaining = n + 2 := ⟨s.ugRemaining - 2, by omega⟩
  rw [exec, execUgdata_pos hn, if_neg (Nat.succ_ne_zero n), hn, endByte]
  rfl

/-- What UGDATA answers with one byte pending (R152). -/
theorem exec_ugdata_of_one {s : State} (h : s.ugRemaining = 1) (d : Byte) :
    exec (.ugdata d) s = .next (refresh (setdata (glyphShift s.ugAcc d) d
      { s with ugRemaining := 0, ugAcc := glyphShift s.ugAcc d })) := by
  rw [exec, execUgdata_pos h, if_pos rfl, endByte]

/-- Settles O40, by the count of bytes pending. -/
theorem ugdataShiftsAndCompletes : Obligations.UgdataShiftsAndCompletes :=
  ⟨fun c _ b hn => decodeByte_pending c hn b, fun _ d =>
    ⟨fun h => exec_ugdata_of_two_le h d, fun h => exec_ugdata_of_one h d, fun h => execUgdata_zero h d⟩⟩

/-- A byte that is none of the six codes is written by a move (R208). -/
theorem setdata_of_no_code {s : State} {op : Byte} (seg : Word)
    (h : ∀ k, s.chip.isInBand k = true → op ≠ codeByte k) : setdata seg op s = move seg true s := by
  have hcodes : op ≠ codeByte s.chip.flashMarkCode ∧ op ≠ codeByte s.chip.undefinedCode
      ∧ op ≠ codeByte s.chip.dpCode ∧ op ≠ codeByte s.chip.semiCode ∧ op ≠ codeByte s.chip.glyphTriggerCode
      ∧ op ≠ codeByte s.chip.dummyCode := by
    refine ⟨h _ ?_, h _ ?_, h _ ?_, h _ ?_, h _ ?_, h _ ?_⟩ <;> simp [Chip.isInBand]
  obtain ⟨hmark, hundef, hdp, hsemi, htrig, hdummy⟩ := hcodes
  simp only [setdata, hmark, hundef, hdp, hsemi, htrig, hdummy, if_false, normalArm]

/-- Settles O41: setdata's tests in their order; a byte past an earlier test takes its own arm. -/
theorem writePathTestsCodesInOrder : Obligations.WritePathTestsCodesInOrder := by
  intro s seg op c p byteOf
  have hbyte : byteOf = codeByte := rfl
  simp only [hbyte, List.mem_cons, List.not_mem_nil, or_false, not_or, setdata]
  refine ⟨fun hmark => ?_, fun hmark hundef => ?_, fun ⟨hmark, hundef⟩ hpoint => ?_,
    fun ⟨hmark, hundef, hdp, hsemi⟩ htrig => ?_, fun ⟨hmark, hundef, hdp, hsemi, htrig⟩ hdummy => ?_,
    fun ⟨hmark, hundef, hdp, hsemi, htrig, hdummy⟩ => ?_⟩
  · rw [if_pos hmark, flashMarkArm]
    refine if_congr Iff.rfl rfl (congrArg s.setCells (funext fun i => ?_))
    split
    case isTrue hi => rw [hi]; rfl
    case isFalse => rfl
  · rw [if_neg hmark, if_pos hundef]
  · rw [if_neg hmark, if_neg hundef]
    by_cases hdp : op = codeByte c.dpCode
    · rw [if_pos hdp]; rfl
    · rw [if_neg hdp, if_pos (hpoint.resolve_left hdp)]; rfl
  · rw [if_neg hmark, if_neg hundef, if_neg hdp, if_neg hsemi, if_pos htrig]; rfl
  · rw [if_neg hmark, if_neg hundef, if_neg hdp, if_neg hsemi, if_neg htrig, if_pos hdummy]; rfl
  · rw [if_neg hmark, if_neg hundef, if_neg hdp, if_neg hsemi, if_neg htrig, if_neg hdummy]; rfl

end Sys2Proof.Machine
end

section
/-! SUPPORT. The flash controller: its five phases, the frame of a refresh, and the timeline of a flash. -/

namespace Sys2Proof.Machine

/-- A stopped timer leaves the flash step idle (R241). -/
theorem flashStep_of_stopped {s : State} (h : s.flashTimer = 0) : flashStep s = s := if_pos h

/-- A timer of 2 or more counts down (R242). -/
theorem flashStep_of_counting {s : State} (h : 2 ≤ s.flashTimer) :
    flashStep s = { s with flashTimer := s.flashTimer - 1 } := flashStep_of_ne_one (by omega)

/-- An expiry with `flashing` clear is the first phase (R243). -/
theorem flashStep_of_first {s : State} (h : s.flashTimer = 1) (hf : s.flashing = false) :
    flashStep s = firstPhase { s with flashTimer := 0 } := by simp [flashStep, h, hf]

/-- An expiry with `flashing` set is the second phase (R248). -/
theorem flashStep_of_second {s : State} (h : s.flashTimer = 1) (hf : s.flashing = true) :
    flashStep s = secondPhase { s with flashTimer := 0 } := by simp [flashStep, h, hf]

/-- A second-phase expiry at a rate other than 1 counts the rate down and reloads (R248, D14). -/
theorem flashStep_of_reload {s : State} (h : s.flashTimer = 1) (hf : s.flashing = true) (hr : s.flashRate ≠ 1#4) :
    flashStep s = { s with flashRate := s.flashRate - 1#4, flashTimer := s.chip.flashBReload } := by
  rw [flashStep_of_second h hf]
  rcases secondPhase_cases { s with flashTimer := 0 } with ⟨-, e⟩ | ⟨hone, -⟩
  · exact e
  · exact absurd hone hr

/-- A second-phase expiry at rate 1 ends the flash (R249). -/
theorem flashStep_of_end {s : State} (h : s.flashTimer = 1) (hf : s.flashing = true) (hr : s.flashRate = 1#4) :
    flashStep s = endFlash { s with flashRate := 0#4, flashTimer := 0 } := by
  rw [flashStep_of_second h hf]
  rcases secondPhase_cases { s with flashTimer := 0 } with ⟨hne, -⟩ | ⟨-, e⟩
  · exact absurd hr hne
  · exact e

/-- The inclusive window test of the flash controller (R243). -/
theorem State.inWindow_iff {s : State} {i : CellIx} :
    s.inWindow i = true ↔ s.winStart.toNat ≤ i.val ∧ i.val ≤ s.winEnd.toNat := decide_eq_true_iff

/-- The first phase's attribute, control by control (R244 to R247). -/
theorem firstPhaseAttr_cases (s : State) (i : CellIx) :
    (s.flashControl = .insideWindow → firstPhaseAttr s i
        = if s.winStart.toNat ≤ i.val ∧ i.val ≤ s.winEnd.toNat then .flash else .normal)
    ∧ (s.flashControl = .outsideWindow → firstPhaseAttr s i
        = if s.winStart.toNat ≤ i.val ∧ i.val ≤ s.winEnd.toNat then .normal else .flash)
    ∧ (s.flashControl = .all → firstPhaseAttr s i = .flash)
    ∧ (s.flashControl = .none → firstPhaseAttr s i = s.attr i) := by
  refine ⟨?_, ?_, ?_, ?_⟩ <;> intro h <;> simp only [firstPhaseAttr, h, State.inWindow_iff]

/-- Settles O16, phase by phase. -/
theorem flashStepFollowsItsPhases : Obligations.FlashStepFollowsItsPhases := by
  refine fun s => ⟨flashStep_of_stopped, flashStep_of_counting, fun htimer hclear => ?_, flashStep_of_reload,
    fun htimer hset hrate => ?_⟩
  · rw [flashStep_of_first htimer hclear]
    refine ⟨_, rfl, rfl, fun i => ?_⟩
    rw [pat_firstPhase, attr_firstPhase]
    exact ⟨rfl, firstPhaseAttr_cases s i⟩
  · rw [flashStep_of_end htimer hset hrate]
    refine ⟨_, rfl, ?_, fun i => ?_⟩
    · simp only [endFlash, hset]; rfl
    · rw [pat_endFlash, attr_endFlash]
      exact ⟨rfl, rfl⟩

/-- A flash step writes cells, rate, timer and flag alone. -/
theorem flashStep_frame (s : State) :
    flashStep s = { s with
      cells := (flashStep s).cells, flashRate := (flashStep s).flashRate
      flashTimer := (flashStep s).flashTimer, flashing := (flashStep s).flashing } := by
  rcases flashStep_cases s with ⟨-, e⟩ | ⟨-, e⟩ | ⟨-, -, e⟩ | ⟨-, -, e⟩ <;> rw [e]
  · rfl
  · rcases secondPhase_cases { s with flashTimer := 0 } with ⟨-, e⟩ | ⟨-, e⟩
    · rw [e]
    · rw [e]; rfl

/-- Settles O18: a refresh is the flash step, with its frame, and a render of the sinks; short of an expiry it only
counts. -/
theorem refreshFrame : Obligations.RefreshFrame := by
  refine fun s => ⟨?_, pat_refresh s, fun h => ?_⟩
  · exact congrArg (fun u : State => { u with out := (refresh s).out }) (flashStep_frame s)
  · rw [refresh_of_ne_one h]
    exact ⟨fun i => rfl, rfl, rfl, rfl⟩

/-! ### The timeline -/

/-- A flash step does not read the sinks, so a run of refreshes is the same run of flash steps but for them. -/
theorem iterate_refresh (s : State) (k : Nat) :
    Nat.iterate refresh k s = (Nat.iterate flashStep k s).withSinks (Nat.iterate refresh k s).out := by
  induction k with
  | zero => rfl
  | succ k ih =>
    rw [Function.iterate_succ_apply', Function.iterate_succ_apply']
    conv_lhs => rw [ih, refresh_withSinks]
    rw [ih, refresh_withSinks]; rfl

/-- A running timer counts down for as many steps as it has, but one. -/
theorem iterate_flashStep_counting {s : State} {k : Nat} (h : k < s.flashTimer) :
    Nat.iterate flashStep k s = { s with flashTimer := s.flashTimer - k } := by
  induction k with
  | zero => rfl
  | succ k ih =>
    rw [Function.iterate_succ_apply', ih (by omega), flashStep_of_counting (show 2 ≤ s.flashTimer - k by omega),
      Nat.sub_sub]

/-- The step that uses up a running timer is an expiry from timer 1. -/
theorem iterate_flashStep_expiry {s : State} {n : Nat} (h : s.flashTimer = n + 1) :
    Nat.iterate flashStep (n + 1) s = flashStep { s with flashTimer := 1 } := by
  rw [Function.iterate_succ_apply', iterate_flashStep_counting (by omega), h, Nat.add_sub_cancel_left]

/-- A stopped timer stays stopped. -/
theorem iterate_flashStep_stopped {s : State} (h : s.flashTimer = 0) (k : Nat) : Nat.iterate flashStep k s = s :=
  Function.iterate_fixed (flashStep_of_stopped h) k

/-- A run of refreshes ends, but for the sinks, where the same run of flash steps does. -/
theorem iterate_refresh_of_flashStep {s u : State} {k : Nat} (h : Nat.iterate flashStep k s = u) :
    ∃ o, Nat.iterate refresh k s = u.withSinks o := ⟨_, h ▸ iterate_refresh s k⟩

section
variable {s : State} (htimer : s.flashTimer = 19) (hclear : s.flashing = false)
include htimer hclear

/-- The first phase runs at the nineteenth step (R255). -/
theorem iterate_flashStep_first : Nat.iterate flashStep 19 s = firstPhase { s with flashTimer := 0 } :=
  (iterate_flashStep_expiry htimer).trans (flashStep_of_first (s := { s with flashTimer := 1 }) rfl hclear)

end

section
variable {s : State} (htimer : s.flashTimer = 20) (hset : s.flashing = true)
include htimer hset

/-- Twenty steps of a second phase at a rate other than 1 count it down and reload (R248). -/
theorem iterate_flashStep_reload (hr : s.flashRate ≠ 1#4) :
    Nat.iterate flashStep 20 s = { s with flashRate := s.flashRate - 1#4, flashTimer := s.chip.flashBReload } :=
  (iterate_flashStep_expiry htimer).trans (flashStep_of_reload (s := { s with flashTimer := 1 }) rfl hset hr)

/-- Twenty steps of a second phase at rate 1 end the flash (R249). -/
theorem iterate_flashStep_end (hr : s.flashRate = 1#4) :
    Nat.iterate flashStep 20 s = endFlash { s with flashRate := 0#4, flashTimer := 0 } :=
  (iterate_flashStep_expiry htimer).trans (flashStep_of_end (s := { s with flashTimer := 1 }) rfl hset hr)

/-- With a reload of 20 the rate counts down by one every twenty steps, while it is above 1 (R255). -/
theorem iterate_flashStep_second (hreload : s.chip.flashBReload = 20) {j : Nat} (hj : j < s.flashRate.toNat) :
    Nat.iterate flashStep (20 * j) s = { s with flashRate := BitVec.ofNat 4 (s.flashRate.toNat - j) } := by
  induction j with
  | zero => rw [Nat.sub_zero, BitVec.ofNat_toNat, BitVec.setWidth_eq]; rfl
  | succ j ih =>
    have hrate : s.flashRate.toNat < 16 := s.flashRate.isLt
    have hne : BitVec.ofNat 4 (s.flashRate.toNat - j) ≠ 1#4 := by bv_omega
    have hcount : BitVec.ofNat 4 (s.flashRate.toNat - j) - 1#4 = BitVec.ofNat 4 (s.flashRate.toNat - (j + 1)) := by
      bv_omega
    rw [Nat.mul_succ, Nat.add_comm, Function.iterate_add_apply, ih (by omega), ← hcount]
    refine (iterate_flashStep_reload
      (s := { s with flashRate := BitVec.ofNat 4 (s.flashRate.toNat - j) }) htimer hset hne).trans ?_
    simp only [hreload, htimer]

/-- With a reload of 20 the flash ends after twenty steps for each count of the rate (R255). -/
theorem iterate_flashStep_flash (hreload : s.chip.flashBReload = 20) (hr : s.flashRate ≠ 0#4) :
    Nat.iterate flashStep (20 * s.flashRate.toNat) s = endFlash { s with flashRate := 0#4, flashTimer := 0 } := by
  obtain ⟨m, hm⟩ : ∃ m, s.flashRate.toNat = m + 1 :=
    Nat.exists_eq_succ_of_ne_zero fun h => hr (BitVec.eq_of_toNat_eq h)
  rw [hm, Nat.mul_succ, Nat.add_comm, Function.iterate_add_apply,
    iterate_flashStep_second htimer hset hreload (by omega), hm, Nat.add_sub_cancel_left]
  exact iterate_flashStep_end htimer hset rfl

/-- With a reload of 0 the timer stops at the first second-phase expiry, unless that ends the flash (R255). -/
theorem iterate_flashStep_stops (hreload : s.chip.flashBReload = 0) (hr : s.flashRate ≠ 1#4) {k : Nat}
    (hk : 20 ≤ k) :
    Nat.iterate flashStep k s = { s with flashRate := s.flashRate - 1#4, flashTimer := 0 } := by
  obtain ⟨m, rfl⟩ := Nat.exists_eq_add_of_le' hk
  rw [Function.iterate_add_apply, iterate_flashStep_reload htimer hset hr, hreload]
  exact iterate_flashStep_stopped rfl m

end

/-- The state FRATE `n` leaves when `n` is not 0 and no flash runs: the rate set and the timer at 19 (R162). -/
def flashLoaded (n : Nibble) (s : State) : State :=
  render { s with flashRate := n, flashTimer := 19, flashing := false }

/-- What FRATE `n` answers when `n` is not 0 and no flash runs (R162). -/
theorem exec_frate_of_idle {s : State} {n : Nibble} (hn : n ≠ 0#4) (hclear : s.flashing = false) :
    exec (.frate n) s = .next (flashLoaded n s) := by
  rw [exec_frate, if_neg hn, refresh_of_two_le (show 2 ≤ 20 by decide), hclear]; rfl

/-- The state of the first phase after FRATE `n`: every later attribute of the flash is set here (R243). -/
def flashStarted (n : Nibble) (s : State) : State := firstPhase { flashLoaded n s with flashTimer := 0 }

/-- The first phase after FRATE runs at refresh 19, and what follows it is a run from its state. -/
theorem iterate_flashStep_flashLoaded (n : Nibble) (s : State) (k : Nat) :
    Nat.iterate flashStep (19 + k) (flashLoaded n s) = Nat.iterate flashStep k (flashStarted n s) := by
  rw [Nat.add_comm, Function.iterate_add_apply, iterate_flashStep_first rfl rfl, flashStarted]

/-- The attributes of the first phase after FRATE are those of the state before it (R162, R243). -/
theorem attr_flashStarted (n : Nibble) (s : State) (i : CellIx) :
    (flashStarted n s).attr i = firstPhaseAttr s i := attr_firstPhase _ i

/-- Settles O17: up to refresh 18 the timer counts, at refresh 19 the first phase starts, and from there each
clause follows the second phases by the reload. -/
theorem flashTimeline : Obligations.FlashTimeline := by
  intro s n hn hclear
  have hend : Nat.iterate flashStep 19 (flashLoaded n s) = flashStarted n s :=
    iterate_flashStep_flashLoaded n s 0
  obtain ⟨o, efirst⟩ := iterate_refresh_of_flashStep hend
  refine ⟨_, exec_frate_of_idle hn hclear, rfl, fun k hk => ?_, ?_, ?_, fun i => ?_, fun hreload =>
    ⟨fun j hj => ?_, ?_⟩, fun hreload hne k hk => ?_⟩
  · obtain ⟨o, e⟩ := iterate_refresh_of_flashStep (iterate_flashStep_counting (s := flashLoaded n s) hk)
    rw [e]
    exact ⟨rfl, rfl, fun i => rfl⟩
  · rw [efirst]; rfl
  · rw [efirst]; rfl
  · rw [efirst]; exact attr_flashStarted n s i
  · obtain ⟨o, e⟩ := iterate_refresh_of_flashStep ((iterate_flashStep_flashLoaded n s _).trans
      (iterate_flashStep_second (s := flashStarted n s) rfl rfl hreload hj))
    rw [e]
    refine ⟨rfl, ?_, rfl, attr_flashStarted n s⟩
    exact nibble_toNat_ofNat (show n.toNat - j ≤ 15 by omega)
  · obtain ⟨o, e⟩ := iterate_refresh_of_flashStep ((iterate_flashStep_flashLoaded n s _).trans
      (iterate_flashStep_flash (s := flashStarted n s) rfl rfl hreload hn))
    have e : Nat.iterate refresh (19 + 20 * n.toNat) (flashLoaded n s) = _ := e
    rw [e]
    exact ⟨rfl, rfl, attr_endFlash _, rfl⟩
  · obtain ⟨m, rfl⟩ := Nat.exists_eq_add_of_le (show 19 ≤ k by omega)
    obtain ⟨o, e⟩ := iterate_refresh_of_flashStep ((iterate_flashStep_flashLoaded n s m).trans
      (iterate_flashStep_stops (s := flashStarted n s) rfl rfl hreload hne (by omega)))
    rw [e]
    refine ⟨rfl, ?_, rfl, attr_flashStarted n s⟩
    show (n - 1#4).toNat = n.toNat - 1
    bv_omega

end Sys2Proof.Machine
end

section
/-! SUPPORT. REMAP under a bijection: what the remapped pattern keeps of the pattern. -/

namespace Sys2Proof.Machine

/-- Two patterns with the same bits are equal. -/
theorem word_ext {a b : Word} (h : ∀ i : CellIx, bitAt a i = bitAt b i) : a = b :=
  BitVec.eq_of_getLsbD_eq fun i hi => h ⟨i, hi⟩

section
variable {c : Chip} (hperm : c.permBijective)
include hperm

/-- Every position is PERM of some position. -/
theorem perm_surjective : Function.Surjective c.perm.get :=
  Finite.injective_iff_surjective.1 fun i j hij => hperm i j hij

/-- Two patterns that agree at every place PERM sends a bit to are equal. -/
theorem word_ext_perm {a b : Word} (h : ∀ j, bitAt a (c.perm.get j) = bitAt b (c.perm.get j)) : a = b :=
  word_ext fun i => by obtain ⟨j, rfl⟩ := perm_surjective hperm i; exact h j

/-- REMAP of 0 is 0 (R305). -/
theorem remap_zero : remap c 0#16 = 0#16 :=
  word_ext_perm hperm fun j => (bitAt_remap hperm _ j).trans (by simp [bitAt])

/-- REMAP is injective (R305). -/
theorem remap_injective {a b : Word} (h : remap c a = remap c b) : a = b :=
  word_ext fun j => by rw [← bitAt_remap hperm, h, bitAt_remap hperm]

/-- REMAP takes or to or (R305). -/
theorem remap_or (a b : Word) : remap c (a ||| b) = remap c a ||| remap c b :=
  word_ext_perm hperm fun j => by simp only [bitAt_or, bitAt_remap hperm]

/-- PERM lists the bit positions in another order. -/
theorem map_perm_bitPositions : (bitPositions.map c.perm.get).Perm bitPositions := by
  have hnodup : bitPositions.Nodup := by decide
  refine (List.perm_ext_iff_of_nodup (hnodup.map fun i j hij => hperm i j hij) hnodup).2 fun i => ?_
  obtain ⟨j, hj⟩ := perm_surjective hperm i
  exact ⟨fun _ => mem_bitPositions i, fun _ => List.mem_map.2 ⟨j, mem_bitPositions j, hj⟩⟩

/-- REMAP keeps the number of bits set (R305). -/
theorem length_filter_remap (a : Word) :
    (bitPositions.filter (bitAt (remap c a))).length = (bitPositions.filter (bitAt a)).length := by
  have hbits : bitAt (remap c a) ∘ c.perm.get = bitAt a := funext fun j => bitAt_remap hperm a j
  calc (bitPositions.filter (bitAt (remap c a))).length
      = ((bitPositions.map c.perm.get).filter (bitAt (remap c a))).length :=
        ((map_perm_bitPositions hperm).filter _).length_eq.symm
    _ = (bitPositions.filter (bitAt a)).length := by rw [List.filter_map, List.length_map, hbits]

end

/-- Settles O21: all from the bit that PERM moves; a Normal cell's sink is 0 only for pattern 0 because REMAP is
injective. -/
theorem remapPermutesBits : Obligations.RemapPermutesBits := by
  refine fun c hperm => ⟨remap_zero hperm, fun a b h => remap_injective hperm h, remap_or hperm,
    length_filter_remap hperm, fun s i hc => ?_⟩
  rw [sink_render]
  by_cases hnormal : s.attr i = .normal
  · have hzero : remap c (s.pat i) = 0#16 ↔ s.pat i = 0#16 :=
      ⟨fun h => remap_injective hperm (h.trans (remap_zero hperm).symm), fun h => h ▸ remap_zero hperm⟩
    simp only [visible_of_normal hnormal, hc, hzero, hnormal, ne_eq, not_true_eq_false, false_or]
  · simp only [visible_of_not_normal hnormal, ne_eq, hnormal, not_false_eq_true, true_or]

end Sys2Proof.Machine
end

section
/-! SUPPORT. The scroll steps, and the writes of a move: which cell it writes, and what it leaves unchanged. -/

namespace Sys2Proof.Machine

/-- The engine's write as the cell it sets, if it writes. -/
theorem pat_writeIf (change : Bool) (i j : CellIx) (seg : Word) (s : State) :
    (writeIf change i seg s).pat j = if change = true ∧ j = i then seg else s.pat j := by
  cases change <;> simp [writeIf]

/-- The engine's write keeps attributes (R217). -/
@[simp] theorem attr_writeIf (change : Bool) (i j : CellIx) (seg : Word) (s : State) :
    (writeIf change i seg s).attr j = s.attr j := by
  cases change <;> simp [writeIf]

/-- A move in ScrollLeft before the window's end (R213). -/
theorem move_scrollLeft_inside {s : State} (hmode : s.effectiveMode = .scrollLeft)
    (h : s.cursorPos.toNat < s.winEnd.toNat) (seg : Word) (change : Bool) :
    move seg change s = { writeIf change (cellIx s.cursorPos) seg s with
      pcursorPos := s.cursorPos, scrollActive := false, cursorPos := s.cursorPos + 1#4 } := by
  rw [move_scrollLeft hmode, scrollLeft, if_pos h, writeIf_withPcursorPos]

/-- A move in ScrollRight above the window's start (R215): there the cursor is not 0. -/
theorem move_scrollRight_inside {s : State} (hmode : s.effectiveMode = .scrollRight)
    (h : s.winStart.toNat < s.cursorPos.toNat) (seg : Word) (change : Bool) :
    move seg change s = { writeIf change (cellIx s.cursorPos) seg s with
      pcursorPos := s.cursorPos, scrollActive := false, cursorPos := s.cursorPos - 1#4 } := by
  have hpos : s.cursorPos ≠ 0#4 := fun h0 => by simp [h0] at h
  rw [move_scrollRight hmode, scrollRight, if_pos h, writeIf_withPcursorPos]
  simp only [hpos, if_false]

/-- A move in ScrollLeft at or beyond the window's end (R214). -/
theorem move_scrollLeft_boundary {s : State} (hmode : s.effectiveMode = .scrollLeft)
    (h : s.winEnd.toNat ≤ s.cursorPos.toNat) (seg : Word) (change : Bool) :
    move seg change s = (shiftOrClaim State.shiftWindowLeft { s with pcursorPos := s.cursorPos }).setPat
      (cellIx s.winEnd) (if change then seg else 0#16) := by
  rw [move_scrollLeft hmode, scrollLeft, if_neg (Nat.not_lt.2 h)]

/-- A move in ScrollRight at or below the window's start (R216). -/
theorem move_scrollRight_boundary {s : State} (hmode : s.effectiveMode = .scrollRight)
    (h : s.cursorPos.toNat ≤ s.winStart.toNat) (seg : Word) (change : Bool) :
    move seg change s = (shiftOrClaim State.shiftWindowRight { s with pcursorPos := s.cursorPos }).setPat
      (cellIx s.winStart) (if change then seg else 0#16) := by
  rw [move_scrollRight hmode, scrollRight, if_neg (Nat.not_lt.2 h)]

/-- Shifting or claiming leaves the slot claimed. -/
theorem scrollActive_shiftOrClaim {shift : State → State} (hshift : ∀ s, (shift s).scrollActive = s.scrollActive)
    (s : State) : (shiftOrClaim shift s).scrollActive = true := by
  unfold shiftOrClaim
  split
  case isTrue h => exact (hshift s).trans h
  case isFalse => rfl

/-- A claimed slot shifts, an unclaimed one is claimed and no cell moves (R214, R216). -/
theorem cell_shiftOrClaim (shift : State → State) (s : State) (i : CellIx) :
    (shiftOrClaim shift s).cell i = if s.scrollActive = true then (shift s).cell i else s.cell i := by
  unfold shiftOrClaim
  split <;> rfl

/-- Shifting or claiming writes cells and the flag alone, if the shift writes cells alone. -/
theorem shiftOrClaim_frame {shift : State → State} (hshift : ∀ s, shift s = { s with cells := (shift s).cells })
    (s : State) : shiftOrClaim shift s
      = { s with cells := (shiftOrClaim shift s).cells, scrollActive := true } := by
  unfold shiftOrClaim
  split
  case isTrue h => rw [← h]; exact hshift s
  case isFalse => rfl

/-- A cell after the left boundary's shift or claim (R214). -/
theorem cell_claimLeft (s : State) (i : CellIx) :
    (shiftOrClaim State.shiftWindowLeft s).cell i =
      if s.scrollActive = true ∧ s.winStart.toNat ≤ i.val ∧ i.val < s.winEnd.toNat then s.cell (i + 1)
      else s.cell i := by
  rw [cell_shiftOrClaim, State.cell_shiftWindowLeft]
  exact (ite_and ..).symm

/-- A cell after the right boundary's shift or claim (R216). -/
theorem cell_claimRight (s : State) (i : CellIx) :
    (shiftOrClaim State.shiftWindowRight s).cell i =
      if s.scrollActive = true ∧ s.winStart.toNat < i.val ∧ i.val ≤ s.winEnd.toNat then s.cell (i - 1)
      else s.cell i := by
  rw [cell_shiftOrClaim, State.cell_shiftWindowRight]
  exact (ite_and ..).symm

/-- A cell after a move at the left boundary (R214). -/
theorem cell_move_scrollLeft_boundary {s : State} (hmode : s.effectiveMode = .scrollLeft)
    (h : s.winEnd.toNat ≤ s.cursorPos.toNat) (seg : Word) (change : Bool) (i : CellIx) :
    ((move seg change s).attr i
        = if s.scrollActive = true ∧ s.winStart.toNat ≤ i.val ∧ i.val < s.winEnd.toNat then s.attr (i + 1)
          else s.attr i)
    ∧ (move seg change s).pat i
        = if i = cellIx s.winEnd then (if change then seg else 0#16)
          else if s.scrollActive = true ∧ s.winStart.toNat ≤ i.val ∧ i.val < s.winEnd.toNat then s.pat (i + 1)
          else s.pat i := by
  have hcell := cell_claimLeft { s with pcursorPos := s.cursorPos } i
  rw [move_scrollLeft_boundary hmode h, State.attr_setPat, State.pat_setPat, State.attr, State.pat, hcell]
  refine ⟨?_, if_congr Iff.rfl rfl ?_⟩ <;> split <;> rfl

/-- A cell after a move at the right boundary (R216). -/
theorem cell_move_scrollRight_boundary {s : State} (hmode : s.effectiveMode = .scrollRight)
    (h : s.cursorPos.toNat ≤ s.winStart.toNat) (seg : Word) (change : Bool) (i : CellIx) :
    ((move seg change s).attr i
        = if s.scrollActive = true ∧ s.winStart.toNat < i.val ∧ i.val ≤ s.winEnd.toNat then s.attr (i - 1)
          else s.attr i)
    ∧ (move seg change s).pat i
        = if i = cellIx s.winStart then (if change then seg else 0#16)
          else if s.scrollActive = true ∧ s.winStart.toNat < i.val ∧ i.val ≤ s.winEnd.toNat then s.pat (i - 1)
          else s.pat i := by
  have hcell := cell_claimRight { s with pcursorPos := s.cursorPos } i
  rw [move_scrollRight_boundary hmode h, State.attr_setPat, State.pat_setPat, State.attr, State.pat, hcell]
  refine ⟨?_, if_congr Iff.rfl rfl ?_⟩ <;> split <;> rfl

/-- What a move at the left boundary writes: cells, the last written place and the flag (R214). -/
theorem move_scrollLeft_boundary_frame {s : State} (hmode : s.effectiveMode = .scrollLeft)
    (h : s.winEnd.toNat ≤ s.cursorPos.toNat) (seg : Word) (change : Bool) :
    move seg change s
      = { s with cells := (move seg change s).cells, pcursorPos := s.cursorPos, scrollActive := true } := by
  rw [move_scrollLeft_boundary hmode h]
  exact congrArg (fun u : State => u.setPat (cellIx s.winEnd) (if change then seg else 0#16))
    (shiftOrClaim_frame (fun _ => rfl) { s with pcursorPos := s.cursorPos })

/-- What a move at the right boundary writes: cells, the last written place and the flag (R216). -/
theorem move_scrollRight_boundary_frame {s : State} (hmode : s.effectiveMode = .scrollRight)
    (h : s.cursorPos.toNat ≤ s.winStart.toNat) (seg : Word) (change : Bool) :
    move seg change s
      = { s with cells := (move seg change s).cells, pcursorPos := s.cursorPos, scrollActive := true } := by
  rw [move_scrollRight_boundary hmode h]
  exact congrArg (fun u : State => u.setPat (cellIx s.winStart) (if change then seg else 0#16))
    (shiftOrClaim_frame (fun _ => rfl) { s with pcursorPos := s.cursorPos })

/-- Settles O45: inside, the engine's write and the step right; at the boundary, the shift or claim and the write of
the end cell. -/
theorem scrollLeftStepsAndShifts : Obligations.ScrollLeftStepsAndShifts := by
  refine fun s seg change hmode => ⟨fun h => ?_, fun h =>
    ⟨_, rfl, move_scrollLeft_boundary_frame hmode h seg change, cell_move_scrollLeft_boundary hmode h seg change⟩⟩
  have hright : s.cursorPos + 1#4 = BitVec.ofNat 4 (s.cursorPos.toNat + 1) := by bv_omega
  rw [move_scrollLeft_inside hmode h, writeIf, hright]

/-- Settles O46, the mirror about the window's start. -/
theorem scrollRightStepsAndShifts : Obligations.ScrollRightStepsAndShifts := by
  refine fun s seg change hmode => ⟨fun h => ?_, fun h =>
    ⟨_, rfl, move_scrollRight_boundary_frame hmode h seg change, cell_move_scrollRight_boundary hmode h seg change⟩⟩
  have hleft : s.cursorPos - 1#4 = BitVec.ofNat 4 (s.cursorPos.toNat - 1) := by bv_omega
  rw [move_scrollRight_inside hmode h, writeIf, hleft]

/-- A scroll mode is in effect only with a valid window (R210). -/
theorem winValid_of_scroll {s : State} (h : s.effectiveMode = .scrollLeft ∨ s.effectiveMode = .scrollRight) :
    s.winValid = true := by
  by_contra hw
  rw [State.effectiveMode, if_neg hw] at h
  cases hm : s.mode <;> simp [hm] at h

/-- The moves that write at the cursor, if they write: in a rotate mode, or short of a scroll window's pivot
(R211 to R213, R215). -/
def State.writesAtCursor (s : State) : Prop :=
  s.effectiveMode = .rotateLeft ∨ s.effectiveMode = .rotateRight
    ∨ (s.effectiveMode = .scrollLeft ∧ s.cursorPos.toNat < s.winEnd.toNat)
    ∨ (s.effectiveMode = .scrollRight ∧ s.winStart.toNat < s.cursorPos.toNat)

/-- The cells after such a move are those after the engine's write. -/
theorem cells_move_of_writesAtCursor {s : State} (h : s.writesAtCursor) (seg : Word) (change : Bool) :
    (move seg change s).cells = (writeIf change (cellIx s.cursorPos) seg s).cells := by
  rcases h with h | h | ⟨h, hin⟩ | ⟨h, hin⟩
  · rw [move_rotateLeft h, rotateLeft, writeIf_withPcursorPos]
  · rw [move_rotateRight h, rotateRight, writeIf_withPcursorPos]
  · rw [move_scrollLeft_inside h hin]
  · rw [move_scrollRight_inside h hin]

/-- The patterns after such a move. -/
theorem pat_move_of_writesAtCursor {s : State} (h : s.writesAtCursor) (seg : Word) (change : Bool) (j : CellIx) :
    (move seg change s).pat j = if change = true ∧ j = cellIx s.cursorPos then seg else s.pat j := by
  rw [← pat_writeIf, State.pat, State.pat, State.cell_congr (cells_move_of_writesAtCursor h seg change)]

/-- The attributes after such a move are as before (R217). -/
theorem attr_move_of_writesAtCursor {s : State} (h : s.writesAtCursor) (seg : Word) (change : Bool) (j : CellIx) :
    (move seg change s).attr j = s.attr j := by
  rw [← attr_writeIf change (cellIx s.cursorPos) j seg s, State.attr, State.attr,
    State.cell_congr (cells_move_of_writesAtCursor h seg change)]

/-- The cell a move writes: the cursor's, or the boundary cell of a scroll mode whose pivot the cursor has reached
(R211 to R216). -/
def State.writtenCell (s : State) : CellIx :=
  match s.effectiveMode with
  | .rotateLeft | .rotateRight => cellIx s.cursorPos
  | .scrollLeft => if s.cursorPos.toNat < s.winEnd.toNat then cellIx s.cursorPos else cellIx s.winEnd
  | .scrollRight => if s.winStart.toNat < s.cursorPos.toNat then cellIx s.cursorPos else cellIx s.winStart

/-- A move that writes at the cursor writes the cursor's cell. -/
theorem writtenCell_of_writesAtCursor {s : State} (h : s.writesAtCursor) : s.writtenCell = cellIx s.cursorPos := by
  rcases h with h | h | ⟨h, hin⟩ | ⟨h, hin⟩ <;> simp only [State.writtenCell, h]
  · rw [if_pos hin]
  · rw [if_pos hin]

/-- Every move either writes at the cursor or is at a scroll window's boundary. -/
theorem move_place (s : State) :
    s.writesAtCursor
    ∨ (s.effectiveMode = .scrollLeft ∧ s.winEnd.toNat ≤ s.cursorPos.toNat ∧ s.writtenCell = cellIx s.winEnd)
    ∨ (s.effectiveMode = .scrollRight ∧ s.cursorPos.toNat ≤ s.winStart.toNat
        ∧ s.writtenCell = cellIx s.winStart) := by
  cases hmode : s.effectiveMode with
  | rotateLeft => exact .inl (.inl hmode)
  | rotateRight => exact .inl (.inr (.inl hmode))
  | scrollLeft =>
    rcases Nat.lt_or_ge s.cursorPos.toNat s.winEnd.toNat with h | h
    · exact .inl (.inr (.inr (.inl ⟨hmode, h⟩)))
    · exact .inr (.inl ⟨rfl, h, by simp only [State.writtenCell, hmode, if_neg (Nat.not_lt.2 h)]⟩)
  | scrollRight =>
    rcases Nat.lt_or_ge s.winStart.toNat s.cursorPos.toNat with h | h
    · exact .inl (.inr (.inr (.inr ⟨hmode, h⟩)))
    · exact .inr (.inr ⟨rfl, h, by simp only [State.writtenCell, hmode, if_neg (Nat.not_lt.2 h)]⟩)

/-- A move that writes leaves the pattern in the cell it writes. -/
theorem pat_move_writtenCell (seg : Word) (s : State) : (move seg true s).pat s.writtenCell = seg := by
  rcases move_place s with h | ⟨hmode, h, hcell⟩ | ⟨hmode, h, hcell⟩
  · rw [pat_move_of_writesAtCursor h, if_pos ⟨rfl, writtenCell_of_writesAtCursor h⟩]
  · obtain ⟨-, hpat⟩ := cell_move_scrollLeft_boundary hmode h seg true s.writtenCell
    rw [hpat, if_pos hcell, if_pos rfl]
  · obtain ⟨-, hpat⟩ := cell_move_scrollRight_boundary hmode h seg true s.writtenCell
    rw [hpat, if_pos hcell, if_pos rfl]

/-- A notice does not change the cell a move writes (R320). -/
@[simp] theorem noteCharacter_writtenCell (b : Byte) (s : State) : (noteCharacter b s).writtenCell = s.writtenCell := by
  simp only [State.writtenCell, noteCharacter_effectiveMode, noteCharacter_cursorPos, noteCharacter_winEnd,
    noteCharacter_winStart]

/-- Settles O49: the move writes the entry to that cell, and the refresh's render shows it if the cell is Normal. -/
theorem characterShowsOnItsSink : Obligations.CharacterShowsOnItsSink := by
  intro s k i hi
  replace hi : i = s.writtenCell := hi
  have hpat : (refresh (move (Chip.pattern s.chip k) true (noteCharacter (codeByte k) s))).pat i
      = Chip.pattern s.chip k := by
    rw [pat_refresh, hi, ← noteCharacter_writtenCell (codeByte k) s, pat_move_writtenCell]
  refine ⟨_, exec_chr k s, hpat, fun hnormal => ?_⟩
  rw [sink_refresh, visible_of_normal hnormal, hpat, refresh_chip, move_chip, noteCharacter_chip]
  rfl

/-- CHR, CHRX and DUMMY are a move after the byte's notice, which for DUMMY writes nothing (R207, R208). -/
theorem exec_moving {i : Instr} (hi : (∃ k, i = .chr k) ∨ (∃ k, i = .chrx k) ∨ i = .dummy) (s : State) :
    ∃ seg change b, exec i s = .next (refresh (move seg change (noteCharacter b s)))
      ∧ (i = .dummy → change = false) := by
  rcases hi with ⟨k, rfl⟩ | ⟨k, rfl⟩ | rfl
  · exact ⟨_, _, _, exec_chr k s, nofun⟩
  · exact ⟨_, _, _, exec_chrx k s, nofun⟩
  · exact ⟨_, _, _, exec_dummy s, fun _ => rfl⟩

/-- A cell outside a valid window is not the window's end or start. -/
theorem ne_bounds_of_outside {s : State} {j : CellIx} (hvalid : s.winValid = true)
    (hj : ¬ (s.winStart.toNat ≤ j.val ∧ j.val ≤ s.winEnd.toNat)) : j ≠ cellIx s.winEnd ∧ j ≠ cellIx s.winStart := by
  have hle := winValid_iff.1 hvalid
  constructor <;> rintro rfl <;> simp only [cellIx] at hj <;> omega

/-- Settles O52: a moving form is a move and a refresh, which keeps the patterns and, short of an expiry, the
attributes; and the move is at the cursor or at a boundary. -/
theorem movingWritesFrame : Obligations.MovingWritesFrame := by
  intro i s t hi hexec
  obtain ⟨seg, change, b, hmove, hdummy⟩ := exec_moving hi s
  obtain rfl : refresh (move seg change (noteCharacter b s)) = t := by simpa [hmove] using hexec
  have hattr : s.flashTimer ≠ 1 → ∀ j, (refresh (move seg change (noteCharacter b s))).attr j
      = (move seg change (noteCharacter b s)).attr j := fun h =>
    attr_refresh_of_ne_one (by rwa [move_flashTimer, noteCharacter_flashTimer])
  have hnote : ∀ j, (noteCharacter b s).attr j = s.attr j := noteCharacter_attr b s
  refine ⟨fun hinside => ?_, fun hmode hend => ?_, fun hmode hstart => ?_⟩
  · have hn : (noteCharacter b s).writesAtCursor := by simpa [State.writesAtCursor] using hinside
    refine ⟨fun j hj => ?_, fun hd j => ?_, fun htimer j => ?_⟩
    · rw [pat_refresh, pat_move_of_writesAtCursor hn, if_neg (by simp [hj]), noteCharacter_pat]
    · rw [pat_refresh, pat_move_of_writesAtCursor hn, if_neg (by simp [hdummy hd]), noteCharacter_pat]
    · rw [hattr htimer, attr_move_of_writesAtCursor hn, hnote]
  · have hcell := cell_move_scrollLeft_boundary (s := noteCharacter b s) (by simpa using hmode) (by simpa using hend)
      seg change
    simp only [noteCharacter_scrollActive, noteCharacter_winStart, noteCharacter_winEnd, noteCharacter_pat,
      hnote] at hcell
    refine ⟨fun hidle => ⟨fun j hj => ?_, fun htimer j => ?_⟩, fun j hj => ⟨?_, fun htimer => ?_⟩⟩
    · rw [pat_refresh, (hcell j).2, if_neg hj, if_neg (by simp [hidle])]
    · rw [hattr htimer, (hcell j).1, if_neg (by simp [hidle])]
    · obtain ⟨hne, -⟩ := ne_bounds_of_outside (winValid_of_scroll (.inl hmode)) hj
      rw [pat_refresh, (hcell j).2, if_neg hne, if_neg (by omega)]
    · rw [hattr htimer, (hcell j).1, if_neg (by omega)]
  · have hcell := cell_move_scrollRight_boundary (s := noteCharacter b s) (by simpa using hmode)
      (by simpa using hstart) seg change
    simp only [noteCharacter_scrollActive, noteCharacter_winStart, noteCharacter_winEnd, noteCharacter_pat,
      hnote] at hcell
    refine ⟨fun hidle => ⟨fun j hj => ?_, fun htimer j => ?_⟩, fun j hj => ⟨?_, fun htimer => ?_⟩⟩
    · rw [pat_refresh, (hcell j).2, if_neg hj, if_neg (by simp [hidle])]
    · rw [hattr htimer, (hcell j).1, if_neg (by simp [hidle])]
    · obtain ⟨-, hne⟩ := ne_bounds_of_outside (winValid_of_scroll (.inr hmode)) hj
      rw [pat_refresh, (hcell j).2, if_neg hne, if_neg (by omega)]
    · rw [hattr htimer, (hcell j).1, if_neg (by omega)]

end Sys2Proof.Machine
end

section
/-! SUPPORT. Frames of the forms: which fields an instruction may change, its closing refresh included. -/

namespace Sys2Proof.Machine

/-- An instruction that goes on is the refresh of a state in which its form has written only what it may. -/
theorem exec_eq_refresh {i : Instr} {s t : State} (h : exec i s = .next t) :
    ∃ u, t = refresh u ∧ WritesOnly i s u := by
  rcases exec_cases i s with ⟨u, hu, -⟩ | ⟨-, -, hr⟩
  · obtain ⟨v, hv, hwrites⟩ := exec_writesOnly hu
    exact ⟨v, by simpa [hv] using h.symm, hwrites⟩
  · simp [hr] at h

/-- No instruction writes the receiver, the lines, the parameters or the events to come. -/
theorem exec_keeps {i : Instr} {s t : State} (h : exec i s = .next t) :
    t.srCount = s.srCount ∧ t.srAcc = s.srAcc ∧ t.clkLevel = s.clkLevel ∧ t.dataLevel = s.dataLevel
      ∧ t.chip = s.chip ∧ t.inputs = s.inputs := by
  rcases exec_cases i s with ⟨u, hu, hkeeps, -⟩ | ⟨-, -, hr⟩
  · obtain rfl : refresh u = t := by simpa [hu] using h
    refine ⟨?_, ?_, ?_, ?_, ?_, ?_⟩ <;>
      simp [hkeeps.srCount, hkeeps.srAcc, hkeeps.clkLevel, hkeeps.dataLevel, hkeeps.chip, hkeeps.inputs]
  · simp [hr] at h

/-- A form that stores no pattern does not reach the write path's moves. -/
theorem not_mayMove_of_storesNoPattern {i : Instr} (h : storesNoPattern i) : ¬ mayMove i := by
  cases i <;> simp_all [storesNoPattern, mayMove]

/-- Settles O50: the form's own writes leave patterns and attributes, and its refresh expires the timer only if the
form kept it at 1, which FRATE does not. -/
theorem nonStoringFormsFrame : Obligations.NonStoringFormsFrame := by
  intro i s t hexec
  obtain ⟨u, rfl, hwrites⟩ := exec_eq_refresh hexec
  refine ⟨fun hstores => ⟨fun j => ?_, ?_, ?_⟩, fun hstores htimer j => ?_⟩
  · rw [pat_refresh]
    exact hwrites.patterns.resolve_right (not_not_intro hstores) j
  · rw [refresh_pcursorPos]
    exact hwrites.pcursorPos.resolve_right (not_mayMove_of_storesNoPattern hstores)
  · rw [refresh_ugAcc]
    refine hwrites.ugAcc.resolve_right ?_
    rintro ⟨d, rfl⟩
    exact hstores
  · have hu : u.flashTimer ≠ 1 := by
      rcases hwrites.flashTimer with hkept | ⟨n, hn⟩
      · rcases htimer with h1 | ⟨n, hn⟩
        · rwa [hkept]
        · rw [hwrites.flashLoad n hn]; decide
      · rw [hwrites.flashLoad n hn]; decide
    rw [attr_refresh_of_ne_one hu]
    exact hwrites.attrs.resolve_right (not_not_intro hstores) j

/-- Settles O51: a changed field was written by the form, or by an expiry of its refresh. -/
theorem fieldsAreWrittenOnlyByTheirForms : Obligations.FieldsAreWrittenOnlyByTheirForms := by
  intro i s t hexec
  have hkeeps := exec_keeps hexec
  obtain ⟨u, rfl, hwrites⟩ := exec_eq_refresh hexec
  refine ⟨fun h => hwrites.cursorPos.resolve_left ?_, fun h => hwrites.pcursorPos.resolve_left ?_,
    fun h => hwrites.winStart.resolve_left ?_, fun h => hwrites.winEnd.resolve_left ?_,
    fun h => hwrites.mode.resolve_left ?_, fun h => hwrites.scrollActive.resolve_left ?_,
    fun h => hwrites.flashControl.resolve_left ?_, fun h => ?_, fun h => ?_,
    fun h => hwrites.ugRemaining.resolve_left ?_, fun h => hwrites.ugAcc.resolve_left ?_, hkeeps⟩
  case refine_8 =>
    rcases hwrites.flashRate with hrate | hfrate
    · obtain ⟨htimer, hflashing⟩ := expires_of_rate_ne (hrate ▸ h)
      rcases hwrites.flashTimer with ht | hfrate
      · refine .inr ⟨ht ▸ htimer, ?_⟩
        rcases hwrites.flashing with hf | ⟨hf, -⟩
        · exact hf ▸ hflashing
        · simp [hf] at hflashing
      · exact .inl hfrate
    · exact .inl hfrate
  case refine_9 =>
    rcases hwrites.flashing with hf | ⟨-, hfrate | hnone⟩
    · have htimer := expires_of_flashing_ne (hf ▸ h)
      rcases hwrites.flashTimer with ht | hfrate
      · exact .inr (.inr (ht ▸ htimer))
      · exact .inl hfrate
    · exact .inl hfrate
    · exact .inr (.inl hnone)
  all_goals simpa using h

end Sys2Proof.Machine
end

section
/-! SUPPORT. What no meaning reads: the sinks, the notices already in the stream, and the events to come. A form run in
a state with others of them does the same, and so do the clock call and the other events. -/

namespace Sys2Proof.Machine

/-- The state with other sink values, with notices before those of its stream, and with events ahead of those to
come. -/
def State.surround (s : State) (o : Vector Word 16) (pre : List Diag) (ins : List Event) : State :=
  { s with out := o, diags := pre ++ s.diags, inputs := ins ++ s.inputs }

/-- The state with its own sinks, with notices before those of its stream, and with events ahead of those to come. -/
def State.inContext (s : State) (pre : List Diag) (ins : List Event) : State := s.surround s.out pre ins

section
variable (s : State) (o : Vector Word 16) (pre : List Diag) (ins : List Event)

@[simp] theorem State.surround_chip : (s.surround o pre ins).chip = s.chip := rfl

/-- Surrounding a choice of two states surrounds the chosen one. -/
theorem surround_ite (p : Prop) [Decidable p] (a b : State) :
    (if p then a else b).surround o pre ins = if p then a.surround o pre ins else b.surround o pre ins :=
  apply_ite (fun t : State => t.surround o pre ins) p a b

/-- A notice is appended after all of them (R320). -/
@[simp] theorem State.note_surround (d : Diag) : (s.surround o pre ins).note d = (s.note d).surround o pre ins := by
  simp [State.note, State.surround]

@[simp] theorem noteCharacter_surround (b : Byte) :
    noteCharacter b (s.surround o pre ins) = (noteCharacter b s).surround o pre ins := by
  rw [noteCharacter, noteCharacter, State.note_surround, surround_ite]; rfl

@[simp] theorem writeIf_surround (change : Bool) (i : CellIx) (seg : Word) :
    writeIf change i seg (s.surround o pre ins) = (writeIf change i seg s).surround o pre ins := by
  cases change <;> rfl

@[simp] theorem rotateLeft_surround (seg : Word) (change : Bool) :
    rotateLeft seg change (s.surround o pre ins) = (rotateLeft seg change s).surround o pre ins := by
  rw [rotateLeft, writeIf_surround]; rfl

@[simp] theorem rotateRight_surround (seg : Word) (change : Bool) :
    rotateRight seg change (s.surround o pre ins) = (rotateRight seg change s).surround o pre ins := by
  rw [rotateRight, writeIf_surround]; rfl

/-- Shifting or claiming does not read them, if the shift does not. -/
theorem shiftOrClaim_surround {shift : State → State}
    (hshift : shift (s.surround o pre ins) = (shift s).surround o pre ins) :
    shiftOrClaim shift (s.surround o pre ins) = (shiftOrClaim shift s).surround o pre ins := by
  unfold shiftOrClaim
  rw [hshift, surround_ite]; rfl

@[simp] theorem scrollLeft_surround (seg : Word) (change : Bool) :
    scrollLeft seg change (s.surround o pre ins) = (scrollLeft seg change s).surround o pre ins := by
  unfold scrollLeft
  rw [shiftOrClaim_surround s o pre ins rfl, surround_ite, writeIf_surround]; rfl

@[simp] theorem scrollRight_surround (seg : Word) (change : Bool) :
    scrollRight seg change (s.surround o pre ins) = (scrollRight seg change s).surround o pre ins := by
  unfold scrollRight
  rw [shiftOrClaim_surround s o pre ins rfl, surround_ite, writeIf_surround]; rfl

@[simp] theorem move_surround (seg : Word) (change : Bool) :
    move seg change (s.surround o pre ins) = (move seg change s).surround o pre ins := by
  cases hmode : s.effectiveMode with
  | rotateLeft =>
    rw [move_rotateLeft hmode, move_rotateLeft (s := s.surround o pre ins) hmode]
    exact rotateLeft_surround { s with pcursorPos := s.cursorPos } o pre ins seg change
  | rotateRight =>
    rw [move_rotateRight hmode, move_rotateRight (s := s.surround o pre ins) hmode]
    exact rotateRight_surround { s with pcursorPos := s.cursorPos } o pre ins seg change
  | scrollLeft =>
    rw [move_scrollLeft hmode, move_scrollLeft (s := s.surround o pre ins) hmode]
    exact scrollLeft_surround { s with pcursorPos := s.cursorPos } o pre ins seg change
  | scrollRight =>
    rw [move_scrollRight hmode, move_scrollRight (s := s.surround o pre ins) hmode]
    exact scrollRight_surround { s with pcursorPos := s.cursorPos } o pre ins seg change

@[simp] theorem flashMarkArm_surround (seg : Word) :
    flashMarkArm seg (s.surround o pre ins) = (flashMarkArm seg s).surround o pre ins := by
  unfold flashMarkArm
  rw [move_surround, surround_ite]; rfl

@[simp] theorem decimalPointArm_surround (seg : Word) :
    decimalPointArm seg (s.surround o pre ins) = (decimalPointArm seg s).surround o pre ins := by
  unfold decimalPointArm
  rw [move_surround, surround_ite]; rfl

@[simp] theorem glyphTriggerArm_surround :
    glyphTriggerArm (s.surround o pre ins) = (glyphTriggerArm s).surround o pre ins := rfl

@[simp] theorem setdata_surround (seg : Word) (op : Byte) :
    setdata seg op (s.surround o pre ins) = (setdata seg op s).surround o pre ins := by
  unfold setdata dummyArm normalArm
  simp only [State.surround_chip, flashMarkArm_surround, decimalPointArm_surround, move_surround, surround_ite]
  rfl

/-- A guarded command does not read them, if its action does not. -/
theorem ifWindowValid_surround {act : State → State}
    (hact : act (s.surround o pre ins) = (act s).surround o pre ins) :
    ifWindowValid act (s.surround o pre ins) = (ifWindowValid act s).surround o pre ins := by
  unfold ifWindowValid
  rw [hact, surround_ite]; rfl

/-- A refresh overwrites the sinks, and neither reads nor writes the stream or the events. -/
@[simp] theorem refresh_surround : refresh (s.surround o pre ins) = (refresh s).inContext pre ins := by
  calc refresh (s.surround o pre ins)
      = refresh ((s.inContext pre ins).withSinks o) := rfl
    _ = refresh (s.inContext pre ins) := refresh_withSinks _ o
    _ = (refresh s).inContext pre ins := by
      refine (refresh_receiver s s.srAcc s.srCount s.clkLevel s.dataLevel (ins ++ s.inputs) (pre ++ s.diags)).trans ?_
      rw [State.inContext, State.surround]
      simp

/-- The end of a byte in a state and in the same state with others of them. -/
theorem endByte_surround {s u : State} (o : Vector Word 16) {pre : List Diag} {ins : List Event}
    (h : u = s.surround o pre ins) : endByte u = thenNext (endByte s) (·.inContext pre ins) := by
  rw [h, endByte, refresh_surround]; rfl

/-- No form reads the sinks, the stream or the events to come (R48, R320). -/
theorem exec_surround (i : Instr) :
    exec i (s.surround o pre ins) = thenNext (exec i s) (·.inContext pre ins) := by
  cases i with
  | ugdata d =>
    rcases h : s.ugRemaining with _ | n
    · rw [exec, exec, execUgdata_zero h, execUgdata_zero (s := s.surround o pre ins) h]; rfl
    · rw [exec, exec, execUgdata_pos h, execUgdata_pos (s := s.surround o pre ins) h]
      refine endByte_surround o ?_
      split
      · exact setdata_surround { s with ugRemaining := n, ugAcc := glyphShift s.ugAcc d } o pre ins _ d
      · rfl
  | fmark | dpt | semi => refine endByte_surround o ?_; simp
  | dummy | chr k | chrx k => refine endByte_surround o ?_; simp [dummyArm, normalArm]
  | undef | ugtrig => refine endByte_surround o ?_; simp
  | blnkAll x =>
    refine endByte_surround o ?_
    split
    · simp only [State.note_surround]; rfl
    · rfl
  | blnkWin x | blnkOut x | clrWin x | clrOut x => exact endByte_surround o (ifWindowValid_surround s o pre ins rfl)
  | frate n =>
    refine endByte_surround o ?_
    simp only [stopFlashing_eq]
    split <;> rfl
  | fctlNone x =>
    refine endByte_surround o ?_
    simp only [stopFlashing_eq]
    rfl
  | _ x => exact endByte_surround o rfl

/-- Submitting a byte does not read them: the form it decodes to is the same (R150). -/
theorem submit_surround (b : Byte) :
    submit b (s.surround o pre ins) = thenNext (submit b s) (·.inContext pre ins) :=
  exec_surround s o pre ins (decodeByte s.chip s.ugRemaining b)

/-- How a clock call ends does not read them. -/
theorem endClock_surround (level : Bool) :
    endClock level (s.surround o pre ins) = (endClock level s).inContext pre ins :=
  refresh_surround { s with clkLevel := level } o pre ins

/-- A clock call does not read them, whether it samples a bit or completes a byte (R130). -/
theorem clock_surround (level : Bool) :
    clock level (s.surround o pre ins) = thenNext (clock level s) (·.inContext pre ins) := by
  rcases clock_cases level s with ⟨h, e⟩ | ⟨h, h8, e⟩ | ⟨h, h8, u, hu, e⟩ <;> rw [e, thenNext]
  · rw [clock_idle (s := s.surround o pre ins) h, endClock_surround]
  · rw [clock_bit (s := s.surround o pre ins) h h8]
    exact congrArg Host.Outcome.next (endClock_surround (sampleBit s) o pre ins level)
  · have hsub := submit_surround (sampleBit s) o pre ins (sampleBit s).srAcc
    rw [hu] at hsub
    rw [clock_byte (s := s.surround o pre ins) h h8 hsub]
    exact congrArg Host.Outcome.next (endClock_surround (clearReceiver u) u.out pre ins level)

/-- A restore does not read them: its render overwrites the sinks (R346). -/
theorem restore_surround (m : Image) :
    restore m (s.surround o pre ins) = thenNext (restore m s) (·.inContext pre ins) := by
  unfold restore
  split <;> rfl

/-- No event reads the notices of the stream or the events to come. -/
theorem handle_inContext (e : Event) :
    handle e (s.inContext pre ins) = thenNext (handle e s) (·.inContext pre ins) := by
  cases e with
  | clock level => exact clock_surround s s.out pre ins level
  | submit b => exact submit_surround s s.out pre ins b
  | restore m => exact restore_surround s s.out pre ins m
  | tick => exact congrArg Host.Outcome.next (refresh_surround s s.out pre ins)
  | data level => rfl
  | reset level => cases level <;> rfl

/-- Nothing before the stream and no event ahead is no change but of the sinks. -/
theorem surround_nil : s.surround o [] [] = s.withSinks o := rfl

/-- Nothing before the stream and no event ahead is no change. -/
theorem thenNext_inContext_nil (r : Result) : thenNext r (·.inContext [] []) = r := by
  cases r <;> rfl

/-- No event reads the sinks: with others, the outcome is the same but for sinks that no render has overwritten
(R48). -/
theorem handle_withSinks (e : Event) (o' : Vector Word 16) :
    thenNext (handle e (s.withSinks o)) (·.withSinks o') = thenNext (handle e s) (·.withSinks o') := by
  cases e with
  | clock level => rw [handle, ← surround_nil, clock_surround, thenNext_inContext_nil]; rfl
  | submit b => rw [handle, ← surround_nil, submit_surround, thenNext_inContext_nil]; rfl
  | restore m => rw [handle, ← surround_nil, restore_surround, thenNext_inContext_nil]; rfl
  | tick => rw [handle, tick, refresh_withSinks]; rfl
  | data level => rfl
  | reset level => cases level <;> rfl

end

/-- Settles O59: a step is an event's outcome, or none, and no event reads the sinks. -/
theorem sinksAreNeverRead : Obligations.SinksAreNeverRead := by
  intro s o o'
  cases hin : s.inputs with
  | nil => rw [step_nil hin, step_nil (s := s.withSinks o) hin]; rfl
  | cons e rest =>
    rw [step_cons hin, step_cons (s := s.withSinks o) hin]
    exact handle_withSinks { s with inputs := rest } o e o'

/-- Every event appends at most one notice to the stream (R320, R321). -/
theorem handle_diags {e : Event} {s t : State} (h : handle e s = .next t) :
    ∃ l : List Diag, t.diags = s.diags ++ l ∧ l.length ≤ 1 := by
  have hnone : ∃ l : List Diag, s.diags = s.diags ++ l ∧ l.length ≤ 1 := ⟨[], by simp⟩
  have hsubmit : ∀ {b : Byte} {u v : State}, u.diags = s.diags → submit b u = .next v →
      ∃ l : List Diag, v.diags = s.diags ++ l ∧ l.length ≤ 1 := by
    intro b u v hu hv
    obtain ⟨w, hw, -, -, -, l, hl, hlen⟩ := submit_cases b u
    obtain rfl : refresh w = v := by simpa [hw] using hv
    exact ⟨l, by rw [refresh_diags, hl, hu], hlen⟩
  cases e with
  | clock level =>
    rcases clock_cases level s with ⟨-, e⟩ | ⟨-, -, e⟩ | ⟨-, -, u, hu, e⟩ <;> rw [handle, e] at h <;> cases h
    · simp [endClock]
    · simp [endClock, sampleBit]
    · simpa [endClock, clearReceiver] using hsubmit (u := sampleBit s) rfl hu
  | data level => cases h; exact hnone
  | reset level => cases level <;> cases h <;> exact hnone
  | tick => cases h; simp
  | submit b => exact hsubmit rfl h
  | restore m => obtain ⟨-, rfl⟩ := restore_eq_next_iff.1 h; exact hnone

/-- A state is its stream in front of the same state without it. -/
theorem withoutDiags_inContext (s : State) : s.withoutDiags.inContext s.diags [] = s := by
  simp [State.inContext, State.surround, State.withoutDiags]

/-- Notices in front of a stream are dropped with it. -/
theorem thenNext_inContext_withoutDiags (r : Result) (pre : List Diag) :
    thenNext (thenNext r (·.inContext pre [])) State.withoutDiags = thenNext r State.withoutDiags := by
  cases r <;> rfl

/-- Settles O58: a step from a state is the step from it without its stream, with the stream in front; and an event
appends at most one notice. -/
theorem diagnosticsAreObservational : Obligations.DiagnosticsAreObservational := by
  refine ⟨fun s => ?_, fun s t h => ?_⟩
  · cases hin : s.inputs with
    | nil => rw [step_nil hin, step_nil (s := s.withoutDiags) hin]; rfl
    | cons e rest =>
      rw [step_cons hin, step_cons (s := s.withoutDiags) hin]
      have hcontext := handle_inContext ({ s with inputs := rest } : State).withoutDiags s.diags [] e
      rw [withoutDiags_inContext { s with inputs := rest }] at hcontext
      rw [hcontext, thenNext_inContext_withoutDiags]
      rfl
  · cases hin : s.inputs with
    | nil => rw [step_nil hin] at h; cases h; exact ⟨[], by simp⟩
    | cons e rest =>
      rw [step_cons hin] at h
      exact handle_diags (s := { s with inputs := rest }) h

end Sys2Proof.Machine
end

section
/-! SUPPORT. Runs of steps and of instructions, joined; and the serial delivery of a byte, bit by bit. -/

namespace Sys2Proof.Machine

section
variable {M : Host.Core} {s t : M.State}

/-- A core's run goes on from where its first step goes. -/
theorem core_run_succ (h : M.step s = .next t) (k : Nat) : M.run (k + 1) s = M.run k t := by
  rw [Host.Core.run, h]

/-- A core's run goes on from where its first steps go. -/
theorem core_run_add {m : Nat} (h : M.run m s = .next t) (n : Nat) : M.run (m + n) s = M.run n t := by
  induction m generalizing s with
  | zero => cases h; rw [Nat.zero_add]
  | succ m ih =>
    rw [Nat.succ_add, Host.Core.run]
    rw [Host.Core.run] at h
    cases hstep : M.step s with
    | next u => rw [hstep] at h; exact ih h
    | fault e => rw [hstep] at h; cases h
    | refused e => rw [hstep] at h; cases h

end

/-- The machine's run goes on from where its first step goes. -/
theorem run_succ {s t : State} (h : step s = .next t) (k : Nat) :
    Host.Core.run Sys2Proof.core (k + 1) s = Host.Core.run Sys2Proof.core k t :=
  core_run_succ (M := Sys2Proof.core) h k

/-- The machine's run goes on from where its first steps go. -/
theorem run_add {s t : State} {m : Nat} (h : Host.Core.run Sys2Proof.core m s = .next t) (n : Nat) :
    Host.Core.run Sys2Proof.core (m + n) s = Host.Core.run Sys2Proof.core n t :=
  core_run_add (M := Sys2Proof.core) h n

/-- The state with the receiver, the line levels and the events to come at given values. -/
def State.withReceiver (s : State) (acc : Byte) (n : Nat) (clk dat : Bool) (ins : List Event) : State :=
  { s with srAcc := acc, srCount := n, clkLevel := clk, dataLevel := dat, inputs := ins }

/-- A refresh neither reads nor writes them. -/
theorem refresh_withReceiver (s : State) (acc : Byte) (n : Nat) (clk dat : Bool) (ins : List Event) :
    refresh (s.withReceiver acc n clk dat ins) = (refresh s).withReceiver acc n clk dat ins := by
  refine (refresh_receiver s acc n clk dat ins s.diags).trans ?_
  rw [State.withReceiver, refresh_diags]

/-- Nor does a run of refreshes. -/
theorem iterate_refresh_withReceiver (s : State) (acc : Byte) (n : Nat) (clk dat : Bool) (ins : List Event) (k : Nat) :
    Nat.iterate refresh k (s.withReceiver acc n clk dat ins)
      = (Nat.iterate refresh k s).withReceiver acc n clk dat ins := by
  induction k generalizing s with
  | zero => rfl
  | succ k ih => rw [Function.iterate_succ_apply, refresh_withReceiver, ih, Function.iterate_succ_apply]

/-- The parameters stay through a run of refreshes. -/
theorem iterate_refresh_chip (s : State) (k : Nat) : (Nat.iterate refresh k s).chip = s.chip := by
  induction k with
  | zero => rfl
  | succ k ih => rw [Function.iterate_succ_apply', refresh_chip, ih]

/-- The level the data line takes for a bit: low for a 1 (R100). -/
def bitLevel (low bit : Bool) : Bool := if bit then low else !low

/-- The accumulator after a bit is shifted in (R132). -/
def shiftIn (acc : Byte) (bit : Bool) : Byte := acc <<< 1 ||| (if bit then 1#8 else 0#8)

/-- The events of a bit are its data level and a clock pulse (R100). -/
theorem sendBit_eq (low bit : Bool) : sendBit low bit = [.data (bitLevel low bit), .clock (!low), .clock low] := rfl

/-- Eight bits shifted in, most significant first, are the byte, whatever the accumulator held (R75, R132). -/
theorem shiftIn_byte (acc b : Byte) :
    [b[7], b[6], b[5], b[4], b[3], b[2], b[1], b[0]].foldl shiftIn acc = b := by
  have hone : ∀ bit : Bool, (if bit = true then 1#8 else 0#8) = (BitVec.ofBool bit).setWidth 8 := by decide
  refine BitVec.eq_of_getLsbD_eq fun i hi => ?_
  simp only [List.foldl_cons, List.foldl_nil, shiftIn, hone]
  interval_cases i <;> simp

section
variable (x : State) (acc : Byte) (n : Nat) (bit : Bool) (rest : List Event)

/-- The rising clock of a bit samples: the stored level is low (R131). -/
theorem samples_rising {s : State} (h : s.clkLevel = s.chip.low) : samples (!s.chip.low) s = true :=
  samples_iff.2 ⟨by rw [h]; cases s.chip.low <;> decide, h⟩

/-- The falling clock of a bit samples nothing: the stored level is not low (R131). -/
theorem samples_falling {s : State} (h : s.clkLevel = !s.chip.low) : samples s.chip.low s = false := by
  rw [samples, h]; cases s.chip.low <;> rfl

/-- Sampling a bit's level shifts the bit in and counts it (R132). -/
theorem sampleBit_bitLevel (clk : Bool) (ins : List Event) :
    sampleBit (x.withReceiver acc n clk (bitLevel x.chip.low bit) ins)
      = x.withReceiver (shiftIn acc bit) (n + 1) clk (bitLevel x.chip.low bit) ins := by
  have hlow : bitLevel x.chip.low bit = x.chip.low ↔ bit = true := by
    cases bit <;> cases x.chip.low <;> decide
  simp only [sampleBit, State.withReceiver, shiftIn, hlow]

/-- The end of a clock call on a state given by its receiver: the level is stored and one refresh runs (R134, R135). -/
theorem endClock_withReceiver (level clk dat : Bool) (ins : List Event) :
    endClock level (x.withReceiver acc n clk dat ins) = (refresh x).withReceiver acc n level dat ins :=
  refresh_withReceiver x acc n level dat ins

/-- A clock event's step on a state given by its receiver. -/
theorem step_withReceiver_clock (level clk dat : Bool) :
    step (x.withReceiver acc n clk dat (.clock level :: rest)) = clock level (x.withReceiver acc n clk dat rest) := rfl

/-- The first event of a bit sets the data line (R100, R136). -/
theorem step_bit_data (clk dat : Bool) :
    step (x.withReceiver acc n clk dat (sendBit x.chip.low bit ++ rest))
      = .next (x.withReceiver acc n clk (bitLevel x.chip.low bit)
          (.clock (!x.chip.low) :: .clock x.chip.low :: rest)) := rfl

/-- The last event of a bit samples nothing, stores the low level and refreshes (R131, R134, R135). -/
theorem step_bit_falling (dat : Bool) :
    step (x.withReceiver acc n (!x.chip.low) dat (.clock x.chip.low :: rest))
      = .next ((refresh x).withReceiver acc n x.chip.low dat rest) := by
  rw [step_withReceiver_clock, ← endClock_withReceiver x acc n x.chip.low (!x.chip.low)]
  exact clock_idle (samples_falling (s := x.withReceiver acc n (!x.chip.low) dat rest) rfl)

/-- The three events of a bit short of the eighth shift it in and run two refreshes (R132, R138). -/
theorem run_bit (dat : Bool) (h8 : n + 1 ≠ 8) :
    Host.Core.run Sys2Proof.core 3 (x.withReceiver acc n x.chip.low dat (sendBit x.chip.low bit ++ rest))
      = .next ((Nat.iterate refresh 2 x).withReceiver (shiftIn acc bit) (n + 1) x.chip.low
          (bitLevel x.chip.low bit) rest) := by
  have hrising : step (x.withReceiver acc n x.chip.low (bitLevel x.chip.low bit)
        (.clock (!x.chip.low) :: .clock x.chip.low :: rest))
      = .next ((refresh x).withReceiver (shiftIn acc bit) (n + 1) (!x.chip.low) (bitLevel x.chip.low bit)
          (.clock x.chip.low :: rest)) := by
    rw [step_withReceiver_clock, ← endClock_withReceiver x _ _ _ x.chip.low, ← sampleBit_bitLevel]
    exact clock_bit (samples_rising (s := x.withReceiver acc n x.chip.low _ (.clock x.chip.low :: rest)) rfl) h8
  have hfalling := step_bit_falling (refresh x) (shiftIn acc bit) (n + 1) rest (bitLevel x.chip.low bit)
  rw [refresh_chip] at hfalling
  exact (run_succ (step_bit_data x acc n bit rest _ dat) 2).trans ((run_succ hrising 1).trans (run_succ hfalling 0))

/-- The events of several bits, short of a byte, shift them in, one after the other, with two refreshes each (R138). -/
theorem run_bits (bits : List Bool) (dat : Bool) (h8 : n + bits.length < 8) :
    ∃ dat', Host.Core.run Sys2Proof.core (3 * bits.length)
        (x.withReceiver acc n x.chip.low dat (bits.flatMap (sendBit x.chip.low) ++ rest))
      = .next ((Nat.iterate refresh (2 * bits.length) x).withReceiver (bits.foldl shiftIn acc) (n + bits.length)
          x.chip.low dat' rest) := by
  induction bits generalizing x acc n dat with
  | nil => exact ⟨dat, rfl⟩
  | cons bit bits ih =>
    rw [List.length_cons] at h8
    obtain ⟨dat', hrest⟩ := ih (Nat.iterate refresh 2 x) (shiftIn acc bit) (n + 1) (bitLevel x.chip.low bit) (by omega)
    rw [iterate_refresh_chip] at hrest
    refine ⟨dat', ?_⟩
    rw [List.length_cons, Nat.mul_succ, Nat.mul_succ, Nat.add_comm _ 3, ← Nat.add_assoc n, Nat.add_right_comm n,
      Function.iterate_add_apply, List.flatMap_cons, List.append_assoc]
    exact (run_add (run_bit x acc n bit _ dat (by omega)) _).trans hrest

/-- The three events of the eighth bit submit the byte, clear the receiver and run two refreshes more (R133, R135). -/
theorem run_last_bit (dat : Bool) {u : State}
    (hu : submit (shiftIn acc bit)
      (x.withReceiver (shiftIn acc bit) 8 x.chip.low (bitLevel x.chip.low bit) rest) = .next u) :
    Host.Core.run Sys2Proof.core 3 (x.withReceiver acc 7 x.chip.low dat (sendBit x.chip.low bit ++ rest))
      = .next (refresh (refresh (u.withReceiver 0#8 0 x.chip.low u.dataLevel rest))) := by
  obtain ⟨-, -, -, -, -, hchip, hins, -⟩ := submit_keeps hu
  obtain rfl : u.inputs = rest := hins
  -- The pulse's falling clock still stands ahead in the list while the byte is submitted.
  have hsubmit := submit_surround (x.withReceiver (shiftIn acc bit) 8 x.chip.low (bitLevel x.chip.low bit)
    u.inputs) x.out [] [.clock x.chip.low] (shiftIn acc bit)
  rw [hu, thenNext] at hsubmit
  have hrising : step (x.withReceiver acc 7 x.chip.low (bitLevel x.chip.low bit)
        (.clock (!x.chip.low) :: .clock x.chip.low :: u.inputs))
      = .next ((refresh u).withReceiver 0#8 0 (!x.chip.low) u.dataLevel (.clock x.chip.low :: u.inputs)) := by
    rw [step_withReceiver_clock, ← refresh_withReceiver]
    refine clock_byte (samples_rising
      (s := x.withReceiver acc 7 x.chip.low (bitLevel x.chip.low bit) (.clock x.chip.low :: u.inputs)) rfl) rfl ?_
      (u := u.inContext [] [.clock x.chip.low])
    rw [sampleBit_bitLevel]
    exact hsubmit
  have hfalling := step_bit_falling (refresh u) 0#8 0 u.inputs u.dataLevel
  rw [refresh_chip, hchip] at hfalling
  rw [refresh_withReceiver, refresh_withReceiver]
  exact (run_succ (step_bit_data x acc 7 bit u.inputs _ dat) 2).trans ((run_succ hrising 1).trans (run_succ hfalling 0))

end

/-- `SEND b` is the events of its eight bits, most significant first (R100). -/
theorem sendByte_eq (low : Bool) (b : Byte) :
    sendByte low b = [b[7], b[6], b[5], b[4], b[3], b[2], b[1]].flatMap (sendBit low) ++ sendBit low b[0] := by
  simp [sendByte]

/-- Settles O11: seven bits are shifted in with fourteen refreshes, and the eighth submits the byte they make. -/
theorem sendDeliversTheByte : Obligations.SendDeliversTheByte := by
  intro s b rest hins hcount hclk last
  have hs : s = s.withReceiver s.srAcc 0 s.chip.low s.dataLevel
      ([b[7], b[6], b[5], b[4], b[3], b[2], b[1]].flatMap (sendBit s.chip.low)
        ++ (sendBit s.chip.low b[0] ++ rest)) := by
    rw [← List.append_assoc, ← sendByte_eq, ← hins, State.withReceiver, ← hcount, ← hclk]
  obtain ⟨dat, hseven⟩ := run_bits s s.srAcc 0 (sendBit s.chip.low b[0] ++ rest)
    [b[7], b[6], b[5], b[4], b[3], b[2], b[1]] s.dataLevel (show 0 + 7 < 8 by decide)
  rw [← hs] at hseven
  have hbyte : shiftIn ([b[7], b[6], b[5], b[4], b[3], b[2], b[1]].foldl shiftIn s.srAcc) b[0] = b :=
    shiftIn_byte s.srAcc b
  have hchip := iterate_refresh_chip s 14
  obtain ⟨u, hu⟩ := submit_goesOn b ((Nat.iterate refresh 14 s).withReceiver b 8 s.chip.low last rest)
  have hlast := run_last_bit (Nat.iterate refresh 14 s)
    ([b[7], b[6], b[5], b[4], b[3], b[2], b[1]].foldl shiftIn s.srAcc) b[0] rest dat (u := u)
  rw [hbyte, hchip] at hlast
  obtain ⟨-, -, -, -, -, -, huins, -⟩ := submit_keeps hu
  replace huins : u.inputs = rest := huins
  refine ⟨u, ?_, ?_⟩
  · rw [← iterate_refresh_withReceiver, State.withReceiver, ← hclk] at hu
    exact hu
  · refine (run_add hseven 3).trans ((hlast hu).trans ?_)
    rw [State.withReceiver, ← huins]

end Sys2Proof.Machine
end

section
/-! SUPPORT. Sequences of characters and of glyph bytes: the glyph load, the closed loop of the rotate modes, and the
scrolling window. -/

namespace Sys2Proof.Machine

/-! ### The glyph load -/

/-- The state `x` has the patterns, the cursor, the mode, the window and the parameters of `s`: all a move reads but
attributes and the scroll flag. -/
structure KeepsDisplay (s x : State) : Prop where
  pat : ∀ j, x.pat j = s.pat j
  cursorPos : x.cursorPos = s.cursorPos
  mode : x.mode = s.mode
  winStart : x.winStart = s.winStart
  winEnd : x.winEnd = s.winEnd
  chip : x.chip = s.chip

namespace KeepsDisplay
variable {s x : State}

theorem refl (s : State) : KeepsDisplay s s := ⟨fun _ => rfl, rfl, rfl, rfl, rfl, rfl⟩

theorem trans {y : State} (h : KeepsDisplay s x) (h' : KeepsDisplay x y) : KeepsDisplay s y :=
  ⟨fun j => (h'.pat j).trans (h.pat j), h'.cursorPos.trans h.cursorPos, h'.mode.trans h.mode,
    h'.winStart.trans h.winStart, h'.winEnd.trans h.winEnd, h'.chip.trans h.chip⟩

theorem refresh (h : KeepsDisplay s x) : KeepsDisplay s (refresh x) :=
  ⟨fun j => (pat_refresh x j).trans (h.pat j), (refresh_cursorPos x).trans h.cursorPos, (refresh_mode x).trans h.mode,
    (refresh_winStart x).trans h.winStart, (refresh_winEnd x).trans h.winEnd, (refresh_chip x).trans h.chip⟩

theorem noteCharacter (h : KeepsDisplay s x) (b : Byte) : KeepsDisplay s (noteCharacter b x) :=
  ⟨fun j => (noteCharacter_pat b x j).trans (h.pat j), (noteCharacter_cursorPos b x).trans h.cursorPos,
    (noteCharacter_mode b x).trans h.mode, (noteCharacter_winStart b x).trans h.winStart,
    (noteCharacter_winEnd b x).trans h.winEnd, (noteCharacter_chip b x).trans h.chip⟩

/-- The load's own registers and the events to come are none of them. -/
theorem withLoad (h : KeepsDisplay s x) (n : Nat) (acc : Word) (ins : List Event) :
    KeepsDisplay s { x with ugRemaining := n, ugAcc := acc, inputs := ins } :=
  ⟨h.pat, h.cursorPos, h.mode, h.winStart, h.winEnd, h.chip⟩

theorem effectiveMode (h : KeepsDisplay s x) : x.effectiveMode = s.effectiveMode :=
  effectiveMode_congr h.mode h.winStart h.winEnd

end KeepsDisplay

/-- Two glyph bytes shifted in, the first one high, make the pattern, whatever the accumulator held (R77). -/
theorem glyphShift_bytes (acc p : Word) :
    glyphShift (glyphShift acc (p.extractLsb' 8 8)) (p.extractLsb' 0 8) = p := by
  refine BitVec.eq_of_getLsbD_eq fun i hi => ?_
  simp only [glyphShift]
  interval_cases i <;> simp

/-- While a load is pending, a submitted byte runs UGDATA (R101). -/
theorem submit_of_pending {s : State} (h : 0 < s.ugRemaining) (d : Byte) : submit d s = exec (.ugdata d) s := by
  rw [submit, decodeByte_pending s.chip h]

/-- The trigger's byte, with no load pending, starts a load of two bytes (R206). -/
theorem step_trigger {s : State} {rest : List Event}
    (hin : s.inputs = .submit (codeByte s.chip.glyphTriggerCode) :: rest) (hidle : s.ugRemaining = 0)
    (htrig : s.chip.glyphTriggerCode ∉ [s.chip.flashMarkCode, s.chip.undefinedCode, s.chip.dpCode, s.chip.semiCode]) :
    ∃ t, step s = .next t ∧ KeepsDisplay s t ∧ t.inputs = rest ∧ t.ugRemaining = 2 := by
  have hform : decodeByte s.chip s.ugRemaining (codeByte s.chip.glyphTriggerCode) = .ugtrig := by
    rw [hidle]
    exact decodeByte_of_eq_encode rfl (by simpa [Instr.wf, and_assoc] using htrig) rfl
  have hnoted : KeepsDisplay s (noteCharacter (codeByte s.chip.glyphTriggerCode) { s with inputs := rest }) :=
    ((KeepsDisplay.refl s).withLoad s.ugRemaining s.ugAcc rest).noteCharacter _
  refine ⟨_, (step_submit hin).trans (congrArg (exec · { s with inputs := rest }) hform), ?_, ?_, ?_⟩
  · exact (hnoted.withLoad 2 _ _).refresh
  · simp [glyphTriggerArm]
  · simp [glyphTriggerArm, Config.ugBytes]

/-- A byte with two pending counts down and is shifted in (R151). -/
theorem step_glyph_first {s : State} {d : Byte} {rest : List Event} (hin : s.inputs = .submit d :: rest)
    (h : s.ugRemaining = 2) :
    ∃ t, step s = .next t ∧ KeepsDisplay s t ∧ t.inputs = rest ∧ t.ugRemaining = 1
      ∧ t.ugAcc = glyphShift s.ugAcc d := by
  have hbyte := exec_ugdata_of_two_le (s := { s with inputs := rest }) (Nat.le_of_eq h.symm) d
  rw [← submit_of_pending (s := { s with inputs := rest }) (h.trans_gt Nat.two_pos)] at hbyte
  refine ⟨_, (step_submit hin).trans hbyte, ((KeepsDisplay.refl s).withLoad _ _ _).refresh, ?_, ?_, ?_⟩ <;> simp [h]

/-- A byte with one pending, if no in-band code, ends the load with a move that writes the accumulator (R152, R208). -/
theorem step_glyph_last {s : State} {d : Byte} {rest : List Event} (hin : s.inputs = .submit d :: rest)
    (h : s.ugRemaining = 1) (hd : ∀ k, s.chip.isInBand k = true → d ≠ codeByte k) :
    ∃ x, step s = .next (refresh (move (glyphShift s.ugAcc d) true x)) ∧ KeepsDisplay s x ∧ x.inputs = rest
      ∧ x.ugRemaining = 0 ∧ x.ugAcc = glyphShift s.ugAcc d := by
  have hbyte := exec_ugdata_of_one (s := { s with inputs := rest }) h d
  rw [← submit_of_pending (s := { s with inputs := rest }) (h.trans_gt Nat.one_pos)] at hbyte
  refine ⟨_, (step_submit hin).trans (hbyte.trans ?_), (KeepsDisplay.refl s).withLoad _ _ _, rfl, rfl, rfl⟩
  exact congrArg (Host.Outcome.next ∘ refresh) (setdata_of_no_code _ hd)

/-- Settles O42: the trigger, the high byte and the low byte each keep what a move reads, and the last one's move is
that of `p`. -/
theorem ugloadWritesThePattern : Obligations.UgloadWritesThePattern := by
  intro s p rest hins hidle htrig hlow
  obtain ⟨s1, e1, h1, hin1, hrem1⟩ := step_trigger hins hidle htrig
  obtain ⟨s2, e2, h2, hin2, hrem2, hacc2⟩ := step_glyph_first hin1 hrem1
  have h02 := h1.trans h2
  obtain ⟨x, e3, h3, hin3, hrem3, hacc3⟩ := step_glyph_last hin2 hrem2 (by rw [h02.chip]; exact hlow)
  have hx := h02.trans h3
  rw [hacc2, glyphShift_bytes] at e3 hacc3
  refine ⟨_, (run_succ e1 2).trans ((run_succ e2 1).trans (run_succ e3 0)), by simpa using hin3, by simpa using hrem3,
    by simpa using hacc3, by simpa using hx.cursorPos, fun hmode => ⟨fun i => ?_, ?_⟩⟩
  · have hplace : x.writesAtCursor := by
      rw [State.writesAtCursor, hx.effectiveMode]; exact hmode.elim .inl fun h => .inr (.inl h)
    rw [pat_refresh, pat_move_of_writesAtCursor hplace, hx.cursorPos, hx.pat]
    simp only [true_and]
  · rw [refresh_cursorPos, ← hx.cursorPos, ← hx.effectiveMode]
    rw [← hx.effectiveMode] at hmode
    rcases hmode with h | h
    · rw [move_rotateLeft h, if_pos h, rotateLeft, writeIf_withPcursorPos]
    · rw [move_rotateRight h, if_neg (by simp [h]), rotateRight, writeIf_withPcursorPos]

/-! ### The closed loop of the rotate modes -/

/-- A run of instructions goes on from where its first one goes. -/
theorem runInstrs_cons {i : Instr} {s t : State} (h : exec i s = .next t) (is : List Instr) :
    runInstrs (i :: is) s = runInstrs is t := by
  rw [runInstrs, h]

/-- A run of instructions goes on from where its first ones go. -/
theorem runInstrs_append {is : List Instr} {s t : State} (h : runInstrs is s = .next t) (js : List Instr) :
    runInstrs (is ++ js) s = runInstrs js t := by
  induction is generalizing s with
  | nil => cases h; rfl
  | cons i is ih =>
    rw [runInstrs] at h
    rw [List.cons_append, runInstrs]
    cases hexec : exec i s with
    | next u => rw [hexec] at h; exact ih h
    | fault e => rw [hexec] at h; cases h
    | refused e => rw [hexec] at h; cases h

/-- A character in RotateLeft goes one right (R211). -/
theorem exec_chr_rotateLeft {s : State} (h : s.mode = .rotateLeft) (k : CharIx) :
    ∃ t, exec (.chr k) s = .next t ∧ t.mode = .rotateLeft ∧ t.cursorPos = s.cursorPos + 1#4 := by
  refine ⟨_, exec_chr k s, by simpa using h, ?_⟩
  have hmode : (noteCharacter (codeByte k) s).effectiveMode = .rotateLeft := by
    rw [noteCharacter_effectiveMode, effectiveMode_of_rotate (.inl h), h]
  rw [refresh_cursorPos, move_rotateLeft hmode, rotateLeft, writeIf_withPcursorPos, noteCharacter_cursorPos]

/-- A character in RotateRight goes one left (R212). -/
theorem exec_chr_rotateRight {s : State} (h : s.mode = .rotateRight) (k : CharIx) :
    ∃ t, exec (.chr k) s = .next t ∧ t.mode = .rotateRight ∧ t.cursorPos = s.cursorPos - 1#4 := by
  refine ⟨_, exec_chr k s, by simpa using h, ?_⟩
  have hmode : (noteCharacter (codeByte k) s).effectiveMode = .rotateRight := by
    rw [noteCharacter_effectiveMode, effectiveMode_of_rotate (.inr h), h]
  rw [refresh_cursorPos, move_rotateRight hmode, rotateRight, writeIf_withPcursorPos, noteCharacter_cursorPos]

/-- Characters in RotateLeft go as many cells right, modulo 16. -/
theorem runInstrs_chr_rotateLeft {s : State} (h : s.mode = .rotateLeft) (ks : List CharIx) :
    ∃ t, runInstrs (ks.map .chr) s = .next t ∧ t.cursorPos = s.cursorPos + BitVec.ofNat 4 ks.length := by
  induction ks generalizing s with
  | nil => exact ⟨s, rfl, (BitVec.add_zero _).symm⟩
  | cons k ks ih =>
    obtain ⟨u, hu, hmode, hcursor⟩ := exec_chr_rotateLeft h k
    obtain ⟨t, ht, hlast⟩ := ih hmode
    refine ⟨t, (runInstrs_cons hu _).trans ht, ?_⟩
    rw [hlast, hcursor, List.length_cons, BitVec.ofNat_add, BitVec.add_assoc, BitVec.add_comm 1#4]

/-- Characters in RotateRight go as many cells left, modulo 16. -/
theorem runInstrs_chr_rotateRight {s : State} (h : s.mode = .rotateRight) (ks : List CharIx) :
    ∃ t, runInstrs (ks.map .chr) s = .next t ∧ t.cursorPos + BitVec.ofNat 4 ks.length = s.cursorPos := by
  induction ks generalizing s with
  | nil => exact ⟨s, rfl, BitVec.add_zero _⟩
  | cons k ks ih =>
    obtain ⟨u, hu, hmode, hcursor⟩ := exec_chr_rotateRight h k
    obtain ⟨t, ht, hlast⟩ := ih hmode
    refine ⟨t, (runInstrs_cons hu _).trans ht, ?_⟩
    rw [List.length_cons, BitVec.ofNat_add, ← BitVec.add_assoc, hlast, hcursor, BitVec.sub_add_cancel]

/-- Settles O47: the first run goes right by the number of its characters, the second left by the same. -/
theorem rotatesFormAClosedLoop : Obligations.RotatesFormAClosedLoop := by
  intro s ks js hlen
  obtain ⟨t, ht, hright⟩ := runInstrs_chr_rotateLeft
    (s := refresh { s with mode := .rotateLeft }) (refresh_mode _) ks
  obtain ⟨u, hu, hleft⟩ := runInstrs_chr_rotateRight
    (s := refresh { t with mode := .rotateRight }) (refresh_mode _) js
  refine ⟨u, ?_, ?_⟩
  · rw [List.append_assoc, List.append_assoc]
    exact (runInstrs_append ((runInstrs_cons rfl _).trans ht) _).trans ((runInstrs_cons rfl _).trans hu)
  · rw [refresh_cursorPos] at hright hleft
    have : u.cursorPos + BitVec.ofNat 4 js.length = s.cursorPos + BitVec.ofNat 4 js.length := by
      rw [hleft, ← hlen]; exact hright
    exact (BitVec.add_left_inj _).1 this

/-! ### The scrolling window -/

/-- The number of cells of a valid window (R37). -/
def State.windowWidth (s : State) : Nat := s.winEnd.toNat - s.winStart.toNat + 1

/-- After the characters `ks` are written in ScrollLeft mode from the window's start in state `s`, state `t`: the
cursor has gone right by as many cells, up to the window's end; the slot there is claimed once there are as many as the
window has cells; and the window shows the text, or its last characters once it is longer. -/
structure ShowsText (s : State) (ks : List CharIx) (t : State) : Prop where
  mode : t.mode = .scrollLeft
  winStart : t.winStart = s.winStart
  winEnd : t.winEnd = s.winEnd
  chip : t.chip = s.chip
  cursor : t.cursorPos.toNat = min (s.winStart.toNat + ks.length) s.winEnd.toNat
  claimed : t.scrollActive = decide (s.windowWidth ≤ ks.length)
  pat : ∀ (j : Nat) (i : CellIx) (k : CharIx), i.val = s.winStart.toNat + j → i.val ≤ s.winEnd.toNat →
    ks[ks.length - s.windowWidth + j]? = some k → t.pat i = Chip.pattern s.chip k

section
variable {s : State} {ks : List CharIx} (hwin : s.winStart.toNat ≤ s.winEnd.toNat) (k : CharIx)
include hwin

/-- While the text shows, ScrollLeft is in effect: the window is the valid one it began with (R210). -/
theorem ShowsText.effectiveMode {t : State} (h : ShowsText s ks t) : t.effectiveMode = .scrollLeft := by
  rw [effectiveMode_of_winValid (winValid_iff.2 (by rwa [h.winStart, h.winEnd])), h.mode]

/-- A character short of the window's end is written at the cursor, and the text grows by it (R213). -/
theorem ShowsText.move_inside {t : State} (h : ShowsText s ks t)
    (hin : s.winStart.toNat + ks.length < s.winEnd.toNat) :
    ShowsText s (ks ++ [k]) (move (Chip.pattern s.chip k) true t) := by
  have hmode := h.effectiveMode hwin
  have hcursor : t.cursorPos.toNat = s.winStart.toNat + ks.length := h.cursor.trans (by omega)
  have hbefore : t.cursorPos.toNat < t.winEnd.toNat := by rwa [hcursor, h.winEnd]
  have hend : s.winEnd.toNat < 16 := s.winEnd.isLt
  have hwidth : ks.length + 1 < s.windowWidth := by rw [State.windowWidth]; omega
  refine ⟨by simp [h.mode], by simp [h.winStart], by simp [h.winEnd], by simp [h.chip], ?_, ?_, ?_⟩
  · rw [move_scrollLeft_inside hmode hbefore, List.length_append, List.length_singleton]
    show (t.cursorPos + 1#4).toNat = _
    bv_omega
  · rw [move_scrollLeft_inside hmode hbefore, List.length_append, List.length_singleton,
      decide_eq_false (by omega)]
  · intro j i k' hi hle hk'
    rw [List.length_append, List.length_singleton, Nat.sub_eq_zero_of_le (by omega), Nat.zero_add] at hk'
    rw [pat_move_of_writesAtCursor (.inr (.inr (.inl ⟨hmode, hbefore⟩)))]
    rcases Nat.lt_trichotomy j ks.length with hj | rfl | hj
    · have hne : i ≠ cellIx t.cursorPos := fun e => by rw [e] at hi; simp only [cellIx] at hi; omega
      rw [if_neg (fun hc => hne hc.2)]
      refine h.pat j i k' hi hle ?_
      rwa [Nat.sub_eq_zero_of_le (by omega), Nat.zero_add, ← List.getElem?_append_left hj]
    · rw [List.getElem?_concat_length, Option.some_inj] at hk'
      rw [if_pos ⟨rfl, Fin.ext (hi.trans hcursor.symm)⟩, hk']
    · rw [List.getElem?_eq_none (by simp; omega)] at hk'
      cases hk'

/-- A character at the window's end claims the slot there or shifts the window, and is written there: the text's last
characters grow by it (R214). -/
theorem ShowsText.move_boundary {t : State} (h : ShowsText s ks t)
    (hout : s.winEnd.toNat ≤ s.winStart.toNat + ks.length) :
    ShowsText s (ks ++ [k]) (move (Chip.pattern s.chip k) true t) := by
  have hmode := h.effectiveMode hwin
  have hcursor : t.cursorPos.toNat = s.winEnd.toNat := h.cursor.trans (by omega)
  have hat : t.winEnd.toNat ≤ t.cursorPos.toNat := by rw [hcursor, h.winEnd]
  have hend : s.winEnd.toNat < 16 := s.winEnd.isLt
  have hwidth : s.windowWidth ≤ ks.length + 1 := by rw [State.windowWidth]; omega
  have hframe := move_scrollLeft_boundary_frame hmode hat (Chip.pattern s.chip k) true
  refine ⟨by simp [h.mode], by simp [h.winStart], by simp [h.winEnd], by simp [h.chip], ?_, ?_, ?_⟩
  · rw [congrArg State.cursorPos hframe, List.length_append, List.length_singleton, hcursor]
    omega
  · rw [congrArg State.scrollActive hframe, List.length_append, List.length_singleton, decide_eq_true hwidth]
  · intro j i k' hi hle hk'
    rw [List.length_append, List.length_singleton] at hk'
    obtain ⟨-, hpat⟩ := cell_move_scrollLeft_boundary hmode hat (Chip.pattern s.chip k) true i
    rw [hpat, h.claimed, h.winStart, h.winEnd]
    rcases Nat.lt_or_eq_of_le hle with hlt | heq
    · have hne : i ≠ cellIx s.winEnd := fun e => by rw [e] at hlt; simp only [cellIx] at hlt; omega
      have hold : ks.length + 1 - s.windowWidth + j < ks.length := by rw [State.windowWidth]; omega
      rw [List.getElem?_append_left hold] at hk'
      rw [if_neg hne]
      by_cases hfull : s.windowWidth ≤ ks.length
      · rw [if_pos ⟨decide_eq_true hfull, by omega, hlt⟩]
        have hnext : (i + 1).val = i.val + 1 := Fin.val_add_one_of_lt' (by omega)
        refine h.pat (j + 1) (i + 1) k' (by omega) (by omega) ?_
        rwa [show ks.length - s.windowWidth + (j + 1) = ks.length + 1 - s.windowWidth + j by omega]
      · rw [if_neg (by simp [hfull])]
        refine h.pat j i k' hi hle ?_
        rwa [show ks.length - s.windowWidth + j = ks.length + 1 - s.windowWidth + j by omega]
    · have hlast : ks.length + 1 - s.windowWidth + j = ks.length := by rw [State.windowWidth] at hwidth ⊢; omega
      rw [hlast, List.getElem?_concat_length, Option.some_inj] at hk'
      rw [if_pos (show i = cellIx s.winEnd from Fin.ext heq), if_pos rfl, hk']

end

/-- A notice and a refresh change nothing that the text speaks of. -/
theorem ShowsText.congr {s t u : State} {ks : List CharIx} (h : ShowsText s ks t) (hkeeps : KeepsDisplay t u)
    (hclaimed : u.scrollActive = t.scrollActive) : ShowsText s ks u :=
  ⟨hkeeps.mode.trans h.mode, hkeeps.winStart.trans h.winStart, hkeeps.winEnd.trans h.winEnd,
    hkeeps.chip.trans h.chip, hkeeps.cursorPos ▸ h.cursor, hclaimed.trans h.claimed,
    fun j i k hi hle hk => (hkeeps.pat i).trans (h.pat j i k hi hle hk)⟩

/-- A character goes on, and the text grows by it. -/
theorem ShowsText.exec_chr {s t : State} {ks : List CharIx} (hwin : s.winStart.toNat ≤ s.winEnd.toNat)
    (h : ShowsText s ks t) (k : CharIx) : ∃ u, exec (.chr k) t = .next u ∧ ShowsText s (ks ++ [k]) u := by
  refine ⟨_, Machine.exec_chr k t, ShowsText.congr ?_ (KeepsDisplay.refl _).refresh (refresh_scrollActive _)⟩
  have hnoted : ShowsText s ks (noteCharacter (codeByte k) t) :=
    h.congr ((KeepsDisplay.refl t).noteCharacter _) (noteCharacter_scrollActive _ t)
  rw [h.chip]
  rcases Nat.lt_or_ge (s.winStart.toNat + ks.length) s.winEnd.toNat with hin | hout
  · exact hnoted.move_inside hwin k hin
  · exact hnoted.move_boundary hwin k hout

/-- Written from the window's start with the slot unclaimed, characters go on and show as the text (L1.3). -/
theorem runInstrs_chr_showsText {s : State} (hmode : s.mode = .scrollLeft)
    (hwin : s.winStart.toNat ≤ s.winEnd.toNat) (hcursor : s.cursorPos = s.winStart) (hidle : s.scrollActive = false)
    (ks : List CharIx) : ∃ t, runInstrs (ks.map .chr) s = .next t ∧ ShowsText s ks t := by
  induction ks using List.reverseRecOn with
  | nil =>
    refine ⟨s, rfl, hmode, rfl, rfl, rfl, ?_, ?_, fun j i k _ _ hk => nomatch hk⟩
    · rw [hcursor, List.length_nil]; omega
    · rw [hidle, List.length_nil, decide_eq_false (by rw [State.windowWidth]; omega)]
  | append_singleton ks k ih =>
    obtain ⟨t, ht, htext⟩ := ih
    obtain ⟨u, hu, hnext⟩ := htext.exec_chr hwin k
    rw [List.map_append]
    exact ⟨u, (runInstrs_append ht _).trans (runInstrs_cons hu []), hnext⟩

/-- Settles O48: the text the window shows is at least as long as the window. -/
theorem scrollLeftWindowShowsTheLastCharacters : Obligations.ScrollLeftWindowShowsTheLastCharacters := by
  intro s ks hmode hwin hcursor hidle hlen
  obtain ⟨t, ht, htext⟩ := runInstrs_chr_showsText hmode hwin hcursor hidle ks
  refine ⟨t, ht, BitVec.eq_of_toNat_eq (htext.cursor.trans (by omega)), htext.pat⟩

end Sys2Proof.Machine
end

section
/-! SUPPORT. The pseudocode's loops as updates by index, and from them its blank, clear and scroll steps (log 14). -/

namespace Sys2Proof.Machine.Pseudo

open Sys2Proof.Machine

/-! ### Loops -/

/-- An empty ascending loop does nothing (R17). -/
theorem forUp_of_le {lo hi : Nat} (h : hi ≤ lo) (body : Nat → State → State) (s : State) :
    forUp lo hi body s = s := by
  rw [forUp, Nat.sub_eq_zero_of_le h]; rfl

/-- An ascending loop ends with its last turn (R17). -/
theorem forUp_succ {lo hi : Nat} (h : lo ≤ hi) (body : Nat → State → State) (s : State) :
    forUp lo (hi + 1) body s = body hi (forUp lo hi body s) := by
  rw [forUp, Nat.succ_sub h, List.range'_1_concat, List.foldl_append, Nat.add_sub_cancel' h]; rfl

/-- An empty descending loop does nothing (R17). -/
theorem forDown_self (lo : Nat) (body : Nat → State → State) (s : State) : forDown lo lo body s = s := by
  rw [forDown, Nat.sub_self]; rfl

/-- A descending loop ends with its lowest turn (R17). -/
theorem forDown_succ {lo hi : Nat} (h : lo < hi) (body : Nat → State → State) (s : State) :
    forDown lo hi body s = body lo (forDown (lo + 1) hi body s) := by
  obtain ⟨n, rfl⟩ := Nat.exists_eq_add_of_lt h
  rw [forDown, forDown, show lo + n + 1 - lo = n + 1 by omega, show lo + n + 1 - (lo + 1) = n by omega,
    List.range'_succ, List.reverse_cons, List.foldl_append]
  rfl

/-- Cell number `i` is cell `i`. -/
theorem eq_cellNo_iff {i : Nat} (h : i < 16) (k : CellIx) : k = cellNo i ↔ k.val = i := by
  rw [Fin.ext_iff, cellNo, Fin.val_ofNat, Nat.mod_eq_of_lt h]

/-- The right neighbour by number. -/
theorem cellNo_add_one (k : CellIx) : cellNo (k.val + 1) = k + 1 := by
  revert k; decide

/-- The left neighbour by number. -/
theorem cellNo_sub_one {k : CellIx} : 0 < k.val → cellNo (k.val - 1) = k - 1 := by
  revert k; decide

/-! ### Updates of the cells by index -/

/-- A write of all cells from another one's outcome reads only that outcome's cells. -/
theorem setCells_setCells (s : State) (f g : CellIx → Cell) : (s.setCells f).setCells g = s.setCells g := rfl

/-- Writing every cell as it is changes nothing. -/
theorem setCells_eq_self {s : State} {f : CellIx → Cell} (h : ∀ k, f k = s.cell k) : s.setCells f = s := by
  have hcells : tabulate f = s.cells := Vector.ext fun i hi => (get_tabulate f ⟨i, hi⟩).trans (h ⟨i, hi⟩)
  rw [State.setCells, hcells]

/-- Cell number `i` changed by `f`. -/
def updateCell (f : Cell → Cell) (i : Nat) (s : State) : State :=
  s.setCells fun k => if k = cellNo i then f (s.cell k) else s.cell k

/-- The cells of a range changed by `f`. -/
def updateCells (r : CellIx → Bool) (f : Cell → Cell) (s : State) : State :=
  s.setCells fun k => if r k then f (s.cell k) else s.cell k

/-- A cell after the cells of a range are changed. -/
theorem cell_updateCells (r : CellIx → Bool) (f : Cell → Cell) (s : State) (k : CellIx) :
    (updateCells r f s).cell k = if r k then f (s.cell k) else s.cell k := State.cell_setCells s _ k

/-- Ranges of the same cells are changed alike. -/
theorem updateCells_congr {r r' : CellIx → Bool} (h : ∀ k, r k = true ↔ r' k = true) (f : Cell → Cell) (s : State) :
    updateCells r f s = updateCells r' f s :=
  congrArg (updateCells · f s) (funext fun k => Bool.eq_iff_iff.2 (h k))

/-- An empty range changes nothing. -/
theorem updateCells_of_empty {r : CellIx → Bool} (h : ∀ k, r k = false) (f : Cell → Cell) (s : State) :
    updateCells r f s = s := setCells_eq_self fun k => if_neg (Bool.eq_false_iff.1 (h k))

/-- Two ranges changed by one idempotent `f` are their union changed. -/
theorem updateCells_updateCells (r r' : CellIx → Bool) {f : Cell → Cell} (hf : ∀ c, f (f c) = f c) (s : State) :
    updateCells r' f (updateCells r f s) = updateCells (fun k => r k || r' k) f s := by
  refine (setCells_setCells s _ _).trans (congrArg s.setCells (funext fun k => ?_))
  rw [cell_updateCells]
  by_cases hr : r k = true <;> by_cases hr' : r' k = true <;> simp [hr, hr', hf]

/-- A write of one attribute over a range is such a change. -/
theorem setAttrsOn_eq_updateCells (s : State) (r : CellIx → Bool) (a : Attr) :
    s.setAttrsOn r a = updateCells r (fun c => { c with attr := a }) s := by
  refine congrArg s.setCells (funext fun k => ?_)
  by_cases hk : r k = true
  · simp only [hk, if_true]
  · simp only [hk]; rfl

/-- A loop that changes its cells, each once, changes the cells of its range. -/
theorem forUp_updateCell (f : Cell → Cell) (s : State) {lo hi : Nat} (h : hi ≤ 16) :
    forUp lo hi (updateCell f) s = updateCells (fun k => decide (lo ≤ k.val ∧ k.val < hi)) f s := by
  induction hi with
  | zero =>
    rw [forUp_of_le (Nat.zero_le lo), updateCells_of_empty (fun k => by simp)]
  | succ hi ih =>
    rcases Nat.lt_or_ge hi lo with hlt | hle
    · rw [forUp_of_le hlt, updateCells_of_empty (fun k => by simp; omega)]
    · rw [forUp_succ hle, ih (by omega)]
      refine (setCells_setCells s _ _).trans (congrArg s.setCells (funext fun k => ?_))
      simp only [cell_updateCells, eq_cellNo_iff h, decide_eq_true_iff]
      rcases Nat.lt_trichotomy k.val hi with hk | hk | hk
      · simp only [hk.ne, if_false, hk, Nat.lt_succ_of_lt hk]
      · simp [hk, hle]
      · simp [hk.ne', Nat.lt_asymm hk, Nat.not_lt.2 (Nat.succ_le_of_lt hk)]

/-- The ascending copies are the left shift: each cell takes its right neighbour's old value (R214). -/
theorem forUp_copyCell (s : State) {lo hi : Nat} (h : hi ≤ 15) :
    forUp lo hi (fun i => copyCell i (i + 1)) s
      = s.setCells fun k => if lo ≤ k.val ∧ k.val < hi then s.cell (k + 1) else s.cell k := by
  induction hi with
  | zero =>
    rw [forUp_of_le (Nat.zero_le lo)]
    exact (setCells_eq_self fun k => if_neg (by omega)).symm
  | succ hi ih =>
    rcases Nat.lt_or_ge hi lo with hlt | hle
    · rw [forUp_of_le hlt]
      exact (setCells_eq_self fun k => if_neg (by omega)).symm
    · rw [forUp_succ hle, ih (by omega)]
      refine (setCells_setCells s _ _).trans (congrArg s.setCells (funext fun k => ?_))
      have hright : (cellNo (hi + 1)).val = hi + 1 := (eq_cellNo_iff (by omega) _).1 rfl
      simp only [State.cell_setCells, eq_cellNo_iff (show hi < 16 by omega), hright]
      rcases Nat.lt_trichotomy k.val hi with hk | hk | hk
      · simp only [hk.ne, if_false, hk, Nat.lt_succ_of_lt hk]
      · rw [if_pos hk, if_neg (by omega), if_pos (by omega), ← hk, cellNo_add_one]
      · rw [if_neg (by omega), if_neg (by omega), if_neg (by omega)]

/-- The descending copies are the right shift: each cell takes its left neighbour's old value (R216). -/
theorem forDown_copyCell (s : State) (n : Nat) {lo : Nat} (hlo : 0 < lo) (h : lo + n ≤ 16) :
    forDown lo (lo + n) (fun i => copyCell i (i - 1)) s
      = s.setCells fun k => if lo ≤ k.val ∧ k.val < lo + n then s.cell (k - 1) else s.cell k := by
  induction n generalizing lo with
  | zero =>
    rw [Nat.add_zero, forDown_self]
    exact (setCells_eq_self fun k => if_neg (by omega)).symm
  | succ n ih =>
    have hsum : lo + (n + 1) = lo + 1 + n := by omega
    rw [hsum, forDown_succ (by omega), ih (Nat.succ_pos lo) (by omega)]
    refine (setCells_setCells s _ _).trans (congrArg s.setCells (funext fun k => ?_))
    have hleft : (cellNo (lo - 1)).val = lo - 1 := (eq_cellNo_iff (by omega) _).1 rfl
    simp only [State.cell_setCells, eq_cellNo_iff (show lo < 16 by omega), hleft]
    rcases Nat.lt_trichotomy k.val lo with hk | hk | hk
    · rw [if_neg (by omega), if_neg (by omega), if_neg (by omega)]
    · rw [if_pos hk, if_neg (by omega), if_pos (by omega), ← hk, cellNo_sub_one (by omega)]
    · rw [if_neg (by omega)]
      exact if_congr (by omega) rfl rfl

/-! ### Blank and clear -/

section
variable {f : Cell → Cell} (s : State)

/-- The loop over the window without its end cell (R272). -/
theorem forUp_windowButEnd :
    forUp s.winStart.toNat s.winEnd.toNat (updateCell f) s = updateCells s.windowButEnd f s :=
  forUp_updateCell f s (Nat.le_of_lt s.winEnd.isLt)

/-- The loop over the cells of a valid window, its end included (R278). -/
theorem forUp_windowCells (h : s.winValid = true) :
    forUp s.winStart.toNat (s.winStart.toNat + s.winSize.toNat) (updateCell f) s = updateCells s.windowCells f s := by
  have hle := winValid_iff.1 h
  have hend : s.winEnd.toNat < 16 := s.winEnd.isLt
  have hbound : s.winStart.toNat + s.winSize.toNat = s.winEnd.toNat + 1 := by rw [State.winSize]; omega
  rw [hbound, forUp_updateCell f s (by omega)]
  refine updateCells_congr (fun k => ?_) f s
  rw [State.windowCells_iff, decide_eq_true_iff, Nat.lt_succ_iff]

/-- The two loops over the literal outside range (R273, R279). -/
theorem forUp_outsideRange (hf : ∀ c, f (f c) = f c) :
    (if s.winEnd.toNat < 15 then
        forUp s.winEnd.toNat (15 - s.winEnd.toNat) (updateCell f) (forUp 0 s.winStart.toNat (updateCell f) s)
      else forUp 0 s.winStart.toNat (updateCell f) s) = updateCells s.outsideRange f s := by
  rw [forUp_updateCell f s (Nat.le_of_lt s.winStart.isLt), forUp_updateCell f _ (by omega)]
  split
  case isTrue h =>
    rw [updateCells_updateCells _ _ hf]
    refine updateCells_congr (fun k => ?_) f s
    simp only [State.outsideRange_iff, Bool.or_eq_true, decide_eq_true_iff, h, true_and, Nat.zero_le]
  case isFalse h =>
    refine updateCells_congr (fun k => ?_) f s
    simp only [State.outsideRange_iff, decide_eq_true_iff, h, false_and, or_false, Nat.zero_le, true_and]

end

/-- `setAttr` changes one cell (R270). -/
theorem setAttr_eq (a : Attr) : setAttr a = updateCell (fun c => { c with attr := a }) := rfl

/-- `zeroCell` changes one cell (R276). -/
theorem zeroCell_eq : zeroCell = updateCell (fun _ => { pattern := 0#16, attr := .normal }) := rfl

/-- The loop over cells 0..14 (R271, R274). -/
theorem forUp_allButLast (a : Attr) (s : State) : forUp 0 15 (setAttr a) s = s.setAttrsOn allButLast a := by
  rw [setAttr_eq, forUp_updateCell _ s (by decide), setAttrsOn_eq_updateCells]
  refine updateCells_congr (fun k => ?_) _ s
  simp only [allButLast, decide_eq_true_iff, Nat.zero_le, true_and, Nat.lt_succ_iff]

/-- `blank(0)` is BLNK.ALL's write (R271). -/
theorem blank_zero (s : State) : blank 0#8 s = s.setAttrsOn allButLast .blank := forUp_allButLast .blank s

/-- `blank(1)` is BLNK.WIN's (R272). -/
theorem blank_one (s : State) : blank 1#8 s = ifWindowValid (fun s => s.setAttrsOn s.windowButEnd .blank) s := by
  show (if s.winValid = true then forUp s.winStart.toNat s.winEnd.toNat (setAttr .blank) s else s) = _
  rw [setAttr_eq, forUp_windowButEnd, ← setAttrsOn_eq_updateCells]; rfl

/-- `blank(2)` is BLNK.OUT's (R273). -/
theorem blank_two (s : State) : blank 2#8 s = ifWindowValid (fun s => s.setAttrsOn s.outsideRange .blank) s := by
  show (if s.winValid = true then
      if s.winEnd.toNat < 15 then
        forUp s.winEnd.toNat (15 - s.winEnd.toNat) (setAttr .blank) (forUp 0 s.winStart.toNat (setAttr .blank) s)
      else forUp 0 s.winStart.toNat (setAttr .blank) s
    else s) = _
  rw [setAttr_eq, forUp_outsideRange, ← setAttrsOn_eq_updateCells]
  · rfl
  · exact fun _ => rfl

/-- `blank(3)` is BLNK.OFF's (R274). -/
theorem blank_three (s : State) : blank 3#8 s = s.setAttrsOn allButLast .normal := forUp_allButLast .normal s

/-- `clear(1)` is CLR.WIN's write (R278). -/
theorem clear_one (s : State) : clear 1#8 s = ifWindowValid (fun s => s.clearOn s.windowCells) s := by
  show (if s.winValid = true then
      forUp s.winStart.toNat (s.winStart.toNat + s.winSize.toNat) zeroCell s else s) = _
  by_cases h : s.winValid = true
  · rw [if_pos h, ifWindowValid_of_valid h, zeroCell_eq, forUp_windowCells s h]; rfl
  · rw [if_neg h, ifWindowValid_of_invalid h]

/-- `clear(2)` is CLR.OUT's (R279). -/
theorem clear_two (s : State) : clear 2#8 s = ifWindowValid (fun s => s.clearOn s.outsideRange) s := by
  show (if s.winValid = true then
      if s.winEnd.toNat < 15 then
        forUp s.winEnd.toNat (15 - s.winEnd.toNat) zeroCell (forUp 0 s.winStart.toNat zeroCell s)
      else forUp 0 s.winStart.toNat zeroCell s
    else s) = _
  rw [zeroCell_eq, forUp_outsideRange]
  · rfl
  · exact fun _ => rfl

/-- `clear(3)` is CLR.ALL's (R280). -/
theorem clear_three (s : State) : clear 3#8 s = s.clearOn fun _ => true := by
  show forUp 0 16 zeroCell s = _
  rw [zeroCell_eq, forUp_updateCell _ s (Nat.le_refl 16)]
  refine updateCells_congr (r' := fun _ => true) (fun k => ?_) _ s
  simp only [Nat.zero_le, true_and, k.isLt, decide_true]

/-! ### The cursor engine -/

section
variable (seg : Word) (change : Bool) (s : State)

/-- The pseudocode's RotateLeft step: its mask and its arithmetic modulo 16 are the nibble's own (R211). -/
theorem rotateLeft_eq : rotateLeft seg change s = Machine.rotateLeft seg change s := by
  have hmask : s.cursorPos &&& 0xF#4 = s.cursorPos := by
    have : ∀ n : Nibble, n &&& 0xF#4 = n := by decide
    exact this _
  rw [rotateLeft, Machine.rotateLeft, hmask, nibble_add_one]
  cases change <;> rfl

/-- The pseudocode's RotateRight step (R212). -/
theorem rotateRight_eq : rotateRight seg change s = Machine.rotateRight seg change s := by
  have hmask : s.cursorPos &&& 0xF#4 = s.cursorPos := by
    have : ∀ n : Nibble, n &&& 0xF#4 = n := by decide
    exact this _
  have hleft : BitVec.ofInt 4 (((s.cursorPos.toNat : Int) - 1) % 16) = s.cursorPos - 1#4 := by
    have : ∀ n : Nibble, BitVec.ofInt 4 (((n.toNat : Int) - 1) % 16) = n - 1#4 := by decide
    exact this _
  rw [rotateRight, Machine.rotateRight, hmask]
  cases change
  · exact congrArg (fun c => { s with cursorPos := c }) hleft
  · exact congrArg (fun c => { s.setPat (cellIx s.cursorPos) seg with cursorPos := c }) hleft

/-- The pseudocode's ScrollLeft step (R213, R214). -/
theorem scrollLeft_eq : scrollLeft seg change s = Machine.scrollLeft seg change s := by
  have hshift : (if s.scrollActive = true then
        forUp s.winStart.toNat s.winEnd.toNat (fun i => copyCell i (i + 1)) s
      else { s with scrollActive := true }) = shiftOrClaim State.shiftWindowLeft s :=
    if_congr Iff.rfl (forUp_copyCell s (Nat.le_of_lt_succ s.winEnd.isLt)) rfl
  refine if_congr BitVec.lt_def ?_ ?_
  · cases change <;> rfl
  · dsimp only
    rw [hshift, claimLeft_winEnd]

/-- The pseudocode's ScrollRight step in a valid window (R215, R216). -/
theorem scrollRight_eq (h : s.winValid = true) : scrollRight seg change s = Machine.scrollRight seg change s := by
  obtain ⟨n, hn⟩ := Nat.exists_eq_add_of_le (winValid_iff.1 h)
  have hend : s.winEnd.toNat < 16 := s.winEnd.isLt
  have hcopies : forDown (s.winStart.toNat + 1) (s.winEnd.toNat + 1) (fun i => copyCell i (i - 1)) s
      = s.shiftWindowRight := by
    rw [show s.winEnd.toNat + 1 = s.winStart.toNat + 1 + n by omega,
      forDown_copyCell s n (Nat.succ_pos _) (by omega)]
    exact congrArg s.setCells (funext fun k => if_congr (by omega) rfl rfl)
  have hshift : (if s.scrollActive = true then
        forDown (s.winStart.toNat + 1) (s.winEnd.toNat + 1) (fun i => copyCell i (i - 1)) s
      else { s with scrollActive := true }) = shiftOrClaim State.shiftWindowRight s :=
    if_congr Iff.rfl hcopies rfl
  refine if_congr BitVec.lt_def ?_ ?_
  · have hsat (u : State) : (if s.cursorPos = 0#4 then { u with cursorPos := 0#4 }
          else { u with cursorPos := s.cursorPos - 1#4 })
        = ({ u with cursorPos := if s.cursorPos = 0#4 then 0#4 else s.cursorPos - 1#4 } : State) :=
      (apply_ite (fun c : Nibble => ({ u with cursorPos := c } : State)) _ _ _).symm
    cases change
    · exact hsat { s with scrollActive := false }
    · exact hsat ({ s with scrollActive := false }.setPat (cellIx s.cursorPos) seg)
  · dsimp only
    rw [hshift, claimRight_winStart]

/-- The pseudocode's effective mode (R210). -/
theorem effectiveMode_eq : effectiveMode s = s.effectiveMode := by
  rw [effectiveMode, State.effectiveMode]
  cases s.winValid <;> cases s.mode <;> rfl

end

/-! ### setdata -/

/-- Where the in-band tests leave a move, the rest of `setdata` is that move (R200, R209). -/
theorem setdata_of_move {seg : Word} {op : Byte} {s t : State} {change : Bool}
    (h : inBand op s = (t, true, change)) : setdata seg op s = move seg change t := by
  have heff : effectiveMode { t with pcursorPos := t.cursorPos } = t.effectiveMode := effectiveMode_eq _
  cases hmode : t.effectiveMode with
  | rotateLeft =>
    rw [move_rotateLeft hmode, ← rotateLeft_eq]
    simp only [setdata, h, heff, hmode]
  | rotateRight =>
    rw [move_rotateRight hmode, ← rotateRight_eq]
    simp only [setdata, h, heff, hmode]
  | scrollLeft =>
    rw [move_scrollLeft hmode, ← scrollLeft_eq]
    simp only [setdata, h, heff, hmode]
  | scrollRight =>
    rw [move_scrollRight hmode, 
      ← scrollRight_eq seg change { t with pcursorPos := t.cursorPos } (winValid_of_scroll (.inr hmode))]
    simp only [setdata, h, heff, hmode]

/-- Where the in-band tests leave no move, `setdata` ends with what they did (R200). -/
theorem setdata_of_done {seg : Word} {op : Byte} {s t : State} {change : Bool}
    (h : inBand op s = (t, false, change)) : setdata seg op s = t := by
  rw [setdata, h]

/-- Marking a cell and setting its attribute, one after the other, is the flash-mark arm's one write (R202). -/
theorem setAttr_setPat_mark (s : State) (p : CellIx) (v : Word) :
    setAttr .flash p.val (s.setPat p v)
      = s.setCells fun j => if j = p then { pattern := v, attr := .flash } else s.cell j := by
  refine (setCells_setCells s _ _).trans (congrArg s.setCells (funext fun j => ?_))
  simp only [State.cell_setPat, eq_cellNo_iff p.isLt, Fin.val_inj]
  split <;> rfl

section
variable {op : Byte} {s : State}

/-- The in-band tests at the flash-mark code (R202). -/
theorem inBand_flashMark (h : op = codeByte s.chip.flashMarkCode) :
    inBand op s = if bitAt (s.pat (cellIx s.pcursorPos)) s.chip.flashMarkBit = true then (s, true, false)
      else (setAttr .flash (cellIx s.pcursorPos).val (s.setPat (cellIx s.pcursorPos)
        (s.pat (cellIx s.pcursorPos) ||| bitMask s.chip.flashMarkBit)), false, false) := if_pos h

/-- Flash-mark code: the pseudocode marks or moves as the model's arm does (R202). -/
theorem setdata_flashMark (seg : Word) (h : op = codeByte s.chip.flashMarkCode) :
    setdata seg op s = flashMarkArm seg s := by
  have hin := inBand_flashMark h
  cases hbit : bitAt (s.pat (cellIx s.pcursorPos)) s.chip.flashMarkBit with
  | true =>
    rw [flashMarkArm_of_marked hbit]
    exact setdata_of_move (hin.trans (if_pos hbit))
  | false =>
    rw [flashMarkArm_of_unmarked hbit, setdata_of_done (hin.trans (if_neg (Bool.eq_false_iff.1 hbit))),
      setAttr_setPat_mark]
    refine congrArg s.setCells (funext fun j => ?_)
    split
    case isTrue hj => rw [hj]
    case isFalse => rfl

variable (hmark : op ≠ codeByte s.chip.flashMarkCode) (hundef : op ≠ codeByte s.chip.undefinedCode)
include hmark hundef

/-- A point code: the pseudocode points or moves as the model's arm does (R204, R205). -/
theorem setdata_point (seg : Word) (h : op = codeByte s.chip.dpCode ∨ op = codeByte s.chip.semiCode) :
    setdata seg op s = decimalPointArm seg s := by
  have hin : inBand op s = if bitAt (s.pat (cellIx s.pcursorPos)) s.chip.dpBit = true then (s, true, false)
      else (s.setPat (cellIx s.pcursorPos) (s.pat (cellIx s.pcursorPos) ||| bitMask s.chip.dpBit),
        false, false) :=
    (if_neg hmark).trans ((if_neg hundef).trans (if_pos h))
  cases hbit : bitAt (s.pat (cellIx s.pcursorPos)) s.chip.dpBit with
  | true =>
    rw [decimalPointArm_of_pointed hbit]
    exact setdata_of_move (hin.trans (if_pos hbit))
  | false =>
    rw [decimalPointArm_of_unpointed hbit]
    exact setdata_of_done (hin.trans (if_neg (Bool.eq_false_iff.1 hbit)))

/-- The in-band tests past the point codes (R206, R207, R208). -/
theorem inBand_of_no_point (hdp : op ≠ codeByte s.chip.dpCode) (hsemi : op ≠ codeByte s.chip.semiCode) :
    inBand op s = if op = codeByte s.chip.glyphTriggerCode then ({ s with ugRemaining := 2 }, false, false)
      else if op = codeByte s.chip.dummyCode then (s, true, false) else (s, true, true) :=
  (if_neg hmark).trans ((if_neg hundef).trans (if_neg (not_or.2 ⟨hdp, hsemi⟩)))

end

/-- The pseudocode's `setdata` is the model's, code by code in their order (R200, R201). -/
theorem setdata_eq (seg : Word) (op : Byte) (s : State) : setdata seg op s = Machine.setdata seg op s := by
  rw [Machine.setdata]
  split_ifs with hmark hundef hdp hsemi htrig hdummy
  · exact setdata_flashMark seg hmark
  · exact setdata_of_done (change := false) ((if_neg hmark).trans (if_pos hundef))
  · exact setdata_point hmark hundef seg (.inl hdp)
  · exact setdata_point hmark hundef seg (.inr hsemi)
  all_goals have hin := inBand_of_no_point hmark hundef hdp hsemi
  · exact setdata_of_done (hin.trans (if_pos htrig))
  · exact setdata_of_move (hin.trans ((if_neg htrig).trans (if_pos hdummy)))
  · exact setdata_of_move (hin.trans ((if_neg htrig).trans (if_neg hdummy)))

end Sys2Proof.Machine.Pseudo
end

section
/-! SUPPORT. The pseudocode's dispatch by the ranges of R107: glyph data, characters, control groups (log 14). -/

namespace Sys2Proof.Machine.Pseudo

open Sys2Proof.Machine

/-! ### Control bytes -/

/-- The group of a four-bit form's byte (R104). -/
theorem group_nibble (g n : Nibble) : (g ++ n : Byte) >>> 4 = g.setWidth 8 := by revert g n; decide

/-- The parameter of a four-bit form's byte (R106). -/
theorem parameter_nibble (g n : Nibble) : ((g ++ n : Byte) &&& 0x0F#8).setWidth 4 = n := by revert g n; decide

/-- The group of a two-bit form's byte (R104). -/
theorem group_pair (g : Nibble) (x p : BitVec 2) : (g ++ x ++ p : Byte) >>> 4 = g.setWidth 8 := by
  revert g x p; decide

/-- The parameter of a two-bit form's byte (R105). -/
theorem parameter_pair (g : Nibble) (x p : BitVec 2) : (g ++ x ++ p : Byte) &&& 0x03#8 = p.setWidth 8 := by
  revert g x p; decide

section
variable (x p : BitVec 2) (n : Nibble) (s : State)

/-- Group 0x8 is `blank`, after the notice of byte 0x84 (R275). -/
theorem control_blank : control (0x8#4 ++ x ++ p) s = blank (p.setWidth 8)
    (if (0x8#4 ++ x ++ p : Byte) = 0x84#8 then s.note (.dutyControl (0x8#4 ++ x ++ p)) else s) := by
  rw [← parameter_pair 0x8#4 x p, control, group_pair]; rfl

/-- Only a BLNK.ALL byte is 0x84, so the other three leave no notice (R275). -/
theorem control_blank_quiet {p : BitVec 2} (hp : p ≠ 0#2) :
    control (0x8#4 ++ x ++ p) s = blank (p.setWidth 8) s := by
  have hbyte : (0x8#4 ++ x ++ p : Byte) ≠ 0x84#8 := by revert hp x p; decide
  rw [control_blank, if_neg hbyte]

/-- Group 0x9 is `setcur` (R156). -/
theorem control_setcur : control (0x9#4 ++ n) s = setcur (0x9#4 ++ n) s := by rw [control, group_nibble]; rfl

/-- Group 0xA sets the mode (R157 to R160). -/
theorem control_setMode : control (0xA#4 ++ x ++ p) s = setMode (0xA#4 ++ x ++ p) s := by
  rw [control, group_pair]; rfl

/-- Group 0xB is `clear` (R276). -/
theorem control_clear : control (0xB#4 ++ x ++ p) s = clear (p.setWidth 8) s := by
  rw [← parameter_pair 0xB#4 x p, control, group_pair]; rfl

/-- Group 0xC is `frate` (R162). -/
theorem control_frate : control (0xC#4 ++ n) s = frate (0xC#4 ++ n) s := by rw [control, group_nibble]; rfl

/-- Group 0xD is `fctl` (R163 to R166). -/
theorem control_fctl : control (0xD#4 ++ x ++ p) s = fctl (0xD#4 ++ x ++ p) s := by
  rw [control, group_pair]; rfl

/-- Group 0xE sets the window's start (R167). -/
theorem control_wstart : control (0xE#4 ++ n) s = { s with winStart := n } := by
  rw [control, group_nibble, parameter_nibble]; rfl

/-- Group 0xF is `wend` (R168). -/
theorem control_wend : control (0xF#4 ++ n) s = wend (0xF#4 ++ n) s := by rw [control, group_nibble]; rfl

/-- The pseudocode's `setcur` is the model's write of cursor and flag (R156). -/
theorem setcur_eq (g : Nibble) : setcur (g ++ n) s
    = { s with cursorPos := n, scrollActive := scrollActiveFor s.mode n s.winEnd } := by
  rw [setcur, parameter_nibble, scrollActiveFor_eq_decide]
  by_cases h : s.mode = .scrollLeft ∧ s.winEnd ≤ n
  · rw [decide_eq_true h]; exact if_pos h
  · rw [decide_eq_false h]; exact if_neg h

/-- The pseudocode's `frate` is the model's write of rate, timer and flag (R162). -/
theorem frate_eq (g : Nibble) : frate (g ++ n) s
    = { s with flashRate := n, flashTimer := 20, flashing := if n = 0#4 then false else s.flashing } := by
  rw [frate, parameter_nibble]
  by_cases hn : n = 0#4
  · cases hf : s.flashing with
    | true => simp only [hn, and_self, if_true]
    | false => simp only [hn, Bool.false_eq_true, and_false, if_false, if_true]
  · simp only [hn, false_and, if_false]

/-- The pseudocode's `wend` is the model's write of window end, flag and clamped cursor (R168). -/
theorem wend_eq (g : Nibble) : wend (g ++ n) s
    = { s with winEnd := n, scrollActive := scrollActiveFor s.mode s.cursorPos n
               cursorPos := if scrollActiveFor s.mode s.cursorPos n then n else s.cursorPos } := by
  rw [wend, parameter_nibble, scrollActiveFor_eq_decide]
  by_cases h : s.mode = .scrollLeft ∧ n ≤ s.cursorPos
  · rw [decide_eq_true h]; exact if_pos h
  · rw [decide_eq_false h]; exact if_neg h

end

/-- A control form's meaning is the pseudocode's arm for its byte (R150, R154). -/
theorem exec_control (s : State) (i : Instr) (h7 : (encode s.chip i)[7] = true) (hg : i.isGlyphData = false) :
    exec i s = .next (refresh (control (encode s.chip i) s)) := by
  have hlow (k : CharIx) : (codeByte k)[7] ≠ true := by simp [(codeByte_high_bits k).1]
  cases i with
  | ugdata d => cases hg
  | fmark | undef | dpt | semi | ugtrig | dummy => exact absurd h7 (hlow _)
  | chr k => exact absurd h7 (hlow k)
  | chrx k =>
    have : ∀ k : CharIx, (0b01#2 ++ k : Byte)[7] ≠ true := by decide
    exact absurd h7 (this k)
  | blnkAll x =>
    rw [exec_blnkAll, encode, control_blank, ← blank_zero]
    split
    case isTrue h => rw [h]; rfl
    case isFalse => rfl
  | blnkWin x => rw [exec_blnkWin, encode, control_blank_quiet x s (by decide), ← blank_one]; rfl
  | blnkOut x => rw [exec_blnkOut, encode, control_blank_quiet x s (by decide), ← blank_two]; rfl
  | blnkOff x =>
    rw [encode, control_blank_quiet x s (by decide)]
    exact congrArg (Host.Outcome.next ∘ refresh) (blank_three s).symm
  | setcur n => rw [exec_setcur, encode, control_setcur, setcur_eq]
  | modeRl x | modeRr x | modeSl x | modeSr x =>
    rw [encode, control_setMode, setMode, parameter_pair]; rfl
  | clrNop x => rw [encode, control_clear]; rfl
  | clrWin x => rw [exec_clrWin, encode, control_clear, ← clear_one]; rfl
  | clrOut x => rw [exec_clrOut, encode, control_clear, ← clear_two]; rfl
  | clrAll x => rw [encode, control_clear]; exact congrArg (Host.Outcome.next ∘ refresh) (clear_three s).symm
  | frate n => rw [exec_frate, encode, control_frate, frate_eq]
  | fctlNone x | fctlIn x | fctlOut x | fctlAll x => rw [encode, control_fctl, fctl, parameter_pair]; rfl
  | wstart n => rw [exec_wstart, encode, control_wstart]
  | wend n => rw [exec_wend, encode, control_wend, wend_eq]

/-! ### Character bytes -/

/-- The form of a code byte runs `setdata` on its own entry, after its notice: the decoder's tests and those of
`setdata` are the same, in the same order (R150, R201). -/
theorem exec_codeByte (k : CharIx) (s : State) :
    exec (decodeLowCharacter s.chip (codeByte k)) s
      = .next (refresh (Machine.setdata (Chip.pattern s.chip k) (codeByte k) (noteCharacter (codeByte k) s))) := by
  rw [decodeLowCharacter_codeByte, Machine.setdata]
  simp only [noteCharacter_chip, codeByte_inj]
  split_ifs with hmark hundef hdp hsemi htrig hdummy
  · rw [hmark]; rfl
  · rw [hundef]; rfl
  · rw [hdp]; rfl
  · rw [hsemi]; rfl
  · rw [htrig]; rfl
  · rw [hdummy]; rfl
  · rfl

/-- A CHRX byte is no in-band code, so `setdata` writes its entry by a move (R153, R201). -/
theorem exec_chrx_eq_setdata (k : CharIx) (s : State) :
    exec (.chrx k) s = .next (refresh
      (Machine.setdata (Chip.pattern s.chip k) (0b01#2 ++ k) (noteCharacter (0b01#2 ++ k) s))) := by
  have hcode : ∀ j k : CharIx, (0b01#2 ++ k : Byte) ≠ codeByte j := by decide
  rw [exec_chrx, setdata_of_no_code _ fun j _ => hcode j k]

/-- A character byte runs `setdata` on the entry of its index, after its notice (R150, R153). -/
theorem exec_character (s : State) {b : Byte} (h7 : b[7] = false) :
    exec (decodeByte s.chip 0 b) s
      = .next (refresh (Machine.setdata (Chip.pattern s.chip (charField b)) b (noteCharacter b s))) := by
  cases h6 : b[6] with
  | true =>
    have h := exec_chrx_eq_setdata (charField b) s
    rwa [chrxByte_charField h7 h6, ← decodeByte_chrx s.chip h7 h6] at h
  | false =>
    have h := exec_codeByte (charField b) s
    rwa [codeByte_charField h7 h6, ← decodeByte_low s.chip h7 h6] at h

/-! ### submit -/

/-- The pseudocode's range test is the decoder's on bit 7 (R101). -/
theorem lt_0x80_iff {b : Byte} : b < 0x80#8 ↔ b[7] = false := by revert b; decide

/-- The pseudocode's mask is the decoder's field (R103). -/
theorem charField_eq_mask (b : Byte) : charField b = (b &&& 0x3F#8).setWidth 6 := by revert b; decide

section
variable (b : Byte) (s : State)

/-- The pseudocode of a glyph data byte (R151, R152). -/
theorem submit_glyphData {n : Nat} (h : s.ugRemaining = n + 1) :
    submit b s = refresh (if n = 0 then setdata (glyphShift s.ugAcc b) b
        { s with ugRemaining := n, ugAcc := glyphShift s.ugAcc b }
      else { s with ugRemaining := n, ugAcc := glyphShift s.ugAcc b }) := by
  rw [submit, h, if_pos (Nat.succ_pos n)]; rfl

/-- The pseudocode of a character byte (R153). -/
theorem submit_character (hidle : s.ugRemaining = 0) (h7 : b[7] = false) :
    submit b s = refresh (setdata (Chip.pattern s.chip (charField b)) b (noteCharacter b s)) := by
  rw [submit, hidle, if_neg (Nat.lt_irrefl 0), if_pos (lt_0x80_iff.2 h7), ← charField_eq_mask]
  show refresh (setdata (Chip.pattern (noteCharacter b s).chip (charField b)) b (noteCharacter b s)) = _
  rw [noteCharacter_chip]

/-- The pseudocode of a control byte (R154). -/
theorem submit_control (hidle : s.ugRemaining = 0) (h7 : b[7] = true) : submit b s = refresh (control b s) := by
  rw [submit, hidle, if_neg (Nat.lt_irrefl 0), if_neg (by simp [lt_0x80_iff, h7])]

end
end Sys2Proof.Machine.Pseudo

namespace Sys2Proof.Machine

/-- Settles O8, by the ranges of R107: glyph data while a load is pending, else a character or a control byte. -/
theorem submitRefinesThePseudocode : Obligations.SubmitRefinesThePseudocode := by
  intro s b
  rcases hn : s.ugRemaining with _ | n
  · cases h7 : b[7] with
    | false =>
      rw [submit, hn, Pseudo.exec_character s h7, Pseudo.submit_character b s hn h7, Pseudo.setdata_eq]
    | true =>
      have hb := encode_decodeControl s.chip h7
      have hform : (decodeControl b).isGlyphData = false := by
        rw [← decodeByte_control s.chip h7, Bool.eq_false_iff, Ne, decodeByte_isGlyphData]
        exact Nat.lt_irrefl 0
      have h := Pseudo.exec_control s (decodeControl b) (by rwa [hb]) hform
      rw [submit, hn, decodeByte_control s.chip h7, h, hb, Pseudo.submit_control b s hn h7]
  · rw [submit_of_pending (hn ▸ Nat.succ_pos n), exec, execUgdata_pos hn, Pseudo.submit_glyphData b s hn,
      Pseudo.setdata_eq, endByte]

end Sys2Proof.Machine
end
